-- ==== Sys2Proof/Word.lean ====
section
/-! DEFINITION. The widths of the block: the 64-bit word of every register and port (00_scope.md R8, R9),
the 16-bit command word and its 8-bit identifier field (30_encoding.md R81). -/

namespace Sys2Proof

/-- A register value, port word or stored field: `XLEN = 64` bits, unsigned (R8, R9). -/
abbrev Word := BitVec 64

/-- The command word `CMD[15:0]` (R81). -/
abbrev CmdWord := BitVec 16

/-- The identifier field `ID` of the command word, bits 7:0 (R81). Values 0 to 55 name registers (R30). -/
abbrev RegId := BitVec 8

/-- One byte of a serialised SAVE image (R206). -/
abbrev Byte := BitVec 8

end Sys2Proof
end

