-- ==== Sys2Proof/Syntax.lean ====
section
/-! DEFINITION. The commands of the block (30_encoding.md R80, R85), one constructor for each row of
spec/opcode_table.json. The block's instructions ARE its commands (R80). Only what stands in the command word is
an operand here: WDATA, the RESTORE image and the IC and SREF samples arrive on ports beside the command word
(R82, R84) and are read from the state. -/

namespace Sys2Proof

/-- The three compare timers, the timer index k of R85: 0 TICK_CMPR, 1 STICK_CMPR, 2 HSTICK_CMPR. -/
inductive Timer where
  | tick
  | stick
  | hstick
  deriving DecidableEq, Repr

/-- One constructor for each row of the opcode table. A generic row keeps the identifier as its operand: every
identifier without a full-mask row of its own, 56 to 255 among them, which name no register (R86, R88). A reserved
row keeps the bits it leaves free (R87). -/
inductive Instr where
  /-- RDP: match 0x0000, mask 0xFF00 (R100) -/
  | rdp (id : RegId)
  /-- RDP.TPC: match 0x000D, mask 0xFFFF (R101) -/
  | rdpTpc
  /-- RDP.TNPC: match 0x000E, mask 0xFFFF (R101) -/
  | rdpTnpc
  /-- RDP.TSTATE: match 0x000F, mask 0xFFFF (R101) -/
  | rdpTstate
  /-- RDP.TT: match 0x0010, mask 0xFFFF (R101) -/
  | rdpTt
  /-- RDP.HTSTATE: match 0x001E, mask 0xFFFF (R101) -/
  | rdpHtstate
  /-- RDP.TICK: match 0x0003, mask 0xFFFF (R106) -/
  | rdpTick
  /-- RDP.PRIVTICK: match 0x0011, mask 0xFFFF (R106) -/
  | rdpPrivtick
  /-- RDP.PCR: match 0x0005, mask 0xFFFF (R107) -/
  | rdpPcr
  /-- RDP.PIC: match 0x0006, mask 0xFFFF (R107) -/
  | rdpPic
  /-- RDP.HINTP: match 0x001F, mask 0xFFFF (R107) -/
  | rdpHintp
  /-- RDP.HVER: match 0x0020, mask 0xFFFF (R107) -/
  | rdpHver
  /-- RDP.SOFTINT_SET: match 0x0007, mask 0xFFFF (R108) -/
  | rdpSoftintSet
  /-- RDP.SOFTINT_CLR: match 0x0008, mask 0xFFFF (R108) -/
  | rdpSoftintClr
  /-- WRP: match 0x1000, mask 0xFF00 (R102) -/
  | wrp (id : RegId)
  /-- WRP.TPC: match 0x100D, mask 0xFFFF (R103) -/
  | wrpTpc
  /-- WRP.TNPC: match 0x100E, mask 0xFFFF (R103) -/
  | wrpTnpc
  /-- WRP.TSTATE: match 0x100F, mask 0xFFFF (R103) -/
  | wrpTstate
  /-- WRP.TT: match 0x1010, mask 0xFFFF (R103) -/
  | wrpTt
  /-- WRP.HTSTATE: match 0x101E, mask 0xFFFF (R103) -/
  | wrpHtstate
  /-- WRP.TBA: match 0x1012, mask 0xFFFF (R104) -/
  | wrpTba
  /-- WRP.PSTATE: match 0x1013, mask 0xFFFF (R105) -/
  | wrpPstate
  /-- WRP.TICK: match 0x1003, mask 0xFFFF (R106) -/
  | wrpTick
  /-- WRP.PRIVTICK: match 0x1011, mask 0xFFFF (R106) -/
  | wrpPrivtick
  /-- WRP.PCR: match 0x1005, mask 0xFFFF (R107) -/
  | wrpPcr
  /-- WRP.PIC: match 0x1006, mask 0xFFFF (R107) -/
  | wrpPic
  /-- WRP.HINTP: match 0x101F, mask 0xFFFF (R107) -/
  | wrpHintp
  /-- WRP.HVER: match 0x1020, mask 0xFFFF (R107) -/
  | wrpHver
  /-- WRP.SOFTINT_SET: match 0x1007, mask 0xFFFF (R108) -/
  | wrpSoftintSet
  /-- WRP.SOFTINT_CLR: match 0x1008, mask 0xFFFF (R108) -/
  | wrpSoftintClr
  /-- RDE: match 0x2000, mask 0xFF00 (R130) -/
  | rde (id : RegId)
  /-- RDE.TICK: match 0x2003, mask 0xFFFF (R140) -/
  | rdeTick
  /-- RDE.PRIVTICK: match 0x2011, mask 0xFFFF (R140) -/
  | rdePrivtick
  /-- RDE.HVER: match 0x2020, mask 0xFFFF (R143) -/
  | rdeHver
  /-- RDE.FPRS: match 0x2004, mask 0xFFFF (R144) -/
  | rdeFprs
  /-- RDE.FSR: match 0x2023, mask 0xFFFF (R144) -/
  | rdeFsr
  /-- RDE.PCR: match 0x2005, mask 0xFFFF (R144) -/
  | rdePcr
  /-- RDE.PIC: match 0x2006, mask 0xFFFF (R144) -/
  | rdePic
  /-- RDE.HINTP: match 0x201F, mask 0xFFFF (R144) -/
  | rdeHintp
  /-- RDE.SOFTINT_SET: match 0x2007, mask 0xFFFF (R108) -/
  | rdeSoftintSet
  /-- RDE.SOFTINT_CLR: match 0x2008, mask 0xFFFF (R108) -/
  | rdeSoftintClr
  /-- RDE.STICK: match 0x200B, mask 0xFFFF (R142) -/
  | rdeStick
  /-- WRE: match 0x3000, mask 0xFF00 (R131) -/
  | wre (id : RegId)
  /-- WRE.TICK: match 0x3003, mask 0xFFFF (R141) -/
  | wreTick
  /-- WRE.PRIVTICK: match 0x3011, mask 0xFFFF (R141) -/
  | wrePrivtick
  /-- WRE.TICK_CMPR: match 0x300A, mask 0xFFFF (R170) -/
  | wreTickCmpr
  /-- WRE.STICK_CMPR: match 0x300C, mask 0xFFFF (R170) -/
  | wreStickCmpr
  /-- WRE.HSTICK_CMPR: match 0x3022, mask 0xFFFF (R170) -/
  | wreHstickCmpr
  /-- WRE.PSTATE: match 0x3013, mask 0xFFFF (R146) -/
  | wrePstate
  /-- WRE.TL: match 0x3014, mask 0xFFFF (R146) -/
  | wreTl
  /-- WRE.CWP: match 0x3016, mask 0xFFFF (R150) -/
  | wreCwp
  /-- WRE.GL: match 0x301C, mask 0xFFFF (R150) -/
  | wreGl
  /-- WRE.SOFTINT_SET: match 0x3007, mask 0xFFFF (R151) -/
  | wreSoftintSet
  /-- WRE.SOFTINT_CLR: match 0x3008, mask 0xFFFF (R151) -/
  | wreSoftintClr
  /-- WRE.SOFTINT: match 0x3009, mask 0xFFFF (R151) -/
  | wreSoftint
  /-- WRE.PCR: match 0x3005, mask 0xFFFF (R107) -/
  | wrePcr
  /-- WRE.PIC: match 0x3006, mask 0xFFFF (R107) -/
  | wrePic
  /-- WRE.HINTP: match 0x301F, mask 0xFFFF (R107) -/
  | wreHintp
  /-- WRE.HVER: match 0x3020, mask 0xFFFF (R107) -/
  | wreHver
  /-- WRE.STICK: match 0x300B, mask 0xFFFF (R142) -/
  | wreStick
  /-- NAME: match 0x4000, mask 0xFF00 (R110) -/
  | name (id : RegId)
  /-- RESET: match 0x5000, mask 0xFFFF (R260) -/
  | reset
  /-- SAVE: match 0x6000, mask 0xFFFF (R202) -/
  | save
  /-- RESTORE: match 0x7000, mask 0xFFFF (R203) -/
  | restore
  /-- FIRE.TICK: match 0x8000, mask 0xFFFF (R180) -/
  | fireTick
  /-- FIRE.STICK: match 0x8001, mask 0xFFFF (R180) -/
  | fireStick
  /-- FIRE.HSTICK: match 0x8002, mask 0xFFFF (R180) -/
  | fireHstick
  /-- ISSCHED.TICK: match 0x9000, mask 0xFFFF (R182) -/
  | isschedTick
  /-- ISSCHED.STICK: match 0x9001, mask 0xFFFF (R182) -/
  | isschedStick
  /-- ISSCHED.HSTICK: match 0x9002, mask 0xFFFF (R182) -/
  | isschedHstick
  /-- RESERVED.OPA: match 0xA000, mask 0xF000 (R87) -/
  | reservedOpa (id : RegId)
  /-- RESERVED.OPB: match 0xB000, mask 0xF000 (R87) -/
  | reservedOpb (id : RegId)
  /-- RESERVED.OPC: match 0xC000, mask 0xF000 (R87) -/
  | reservedOpc (id : RegId)
  /-- RESERVED.OPD: match 0xD000, mask 0xF000 (R87) -/
  | reservedOpd (id : RegId)
  /-- RESERVED.OPE: match 0xE000, mask 0xF000 (R87) -/
  | reservedOpe (id : RegId)
  /-- RESERVED.OPF: match 0xF000, mask 0xF000 (R87) -/
  | reservedOpf (id : RegId)
  /-- RESERVED.RSVD: match 0x0000, mask 0x0000 (R87) -/
  | reservedRsvd (op rsvd : BitVec 4) (id : RegId)
  deriving DecidableEq, Repr

end Sys2Proof
end

