-- ==== Sys2Proof/WellFormed.lean ====
section
/-! DEFINITION. Which terms of `Instr` are a command: a generic RDP, WRP, RDE or WRE row stands for the identifiers
that have no full-mask row of their own (30_encoding.md R86), and the row RESERVED.RSVD for words whose RSVD field
is not 0 (R87). -/

namespace Sys2Proof

/-- The identifiers with a full-mask row under RDP (R86). -/
def rdpOwnRows : List RegId :=
  [3, 5, 6, 7, 8, 13, 14, 15, 16, 17, 30, 31, 32]

/-- The identifiers with a full-mask row under WRP (R86). -/
def wrpOwnRows : List RegId :=
  [3, 5, 6, 7, 8, 13, 14, 15, 16, 17, 18, 19, 30, 31, 32]

/-- The identifiers with a full-mask row under RDE (R86). -/
def rdeOwnRows : List RegId :=
  [3, 4, 5, 6, 7, 8, 11, 17, 31, 32, 35]

/-- The identifiers with a full-mask row under WRE (R86). -/
def wreOwnRows : List RegId :=
  [3, 5, 6, 7, 8, 9, 10, 11, 12, 17, 19, 20, 22, 28, 31, 32, 34]

/-- The well-formedness check of a term: every operand is one that the row's encoding admits (R86, R87). -/
def Instr.wf (i : Instr) : Bool :=
  match i with
  | .rdp id => !(rdpOwnRows.contains id)
  | .rdpTpc => true
  | .rdpTnpc => true
  | .rdpTstate => true
  | .rdpTt => true
  | .rdpHtstate => true
  | .rdpTick => true
  | .rdpPrivtick => true
  | .rdpPcr => true
  | .rdpPic => true
  | .rdpHintp => true
  | .rdpHver => true
  | .rdpSoftintSet => true
  | .rdpSoftintClr => true
  | .wrp id => !(wrpOwnRows.contains id)
  | .wrpTpc => true
  | .wrpTnpc => true
  | .wrpTstate => true
  | .wrpTt => true
  | .wrpHtstate => true
  | .wrpTba => true
  | .wrpPstate => true
  | .wrpTick => true
  | .wrpPrivtick => true
  | .wrpPcr => true
  | .wrpPic => true
  | .wrpHintp => true
  | .wrpHver => true
  | .wrpSoftintSet => true
  | .wrpSoftintClr => true
  | .rde id => !(rdeOwnRows.contains id)
  | .rdeTick => true
  | .rdePrivtick => true
  | .rdeHver => true
  | .rdeFprs => true
  | .rdeFsr => true
  | .rdePcr => true
  | .rdePic => true
  | .rdeHintp => true
  | .rdeSoftintSet => true
  | .rdeSoftintClr => true
  | .rdeStick => true
  | .wre id => !(wreOwnRows.contains id)
  | .wreTick => true
  | .wrePrivtick => true
  | .wreTickCmpr => true
  | .wreStickCmpr => true
  | .wreHstickCmpr => true
  | .wrePstate => true
  | .wreTl => true
  | .wreCwp => true
  | .wreGl => true
  | .wreSoftintSet => true
  | .wreSoftintClr => true
  | .wreSoftint => true
  | .wrePcr => true
  | .wrePic => true
  | .wreHintp => true
  | .wreHver => true
  | .wreStick => true
  | .name _ => true
  | .reset => true
  | .save => true
  | .restore => true
  | .fireTick => true
  | .fireStick => true
  | .fireHstick => true
  | .isschedTick => true
  | .isschedStick => true
  | .isschedHstick => true
  | .reservedOpa _ => true
  | .reservedOpb _ => true
  | .reservedOpc _ => true
  | .reservedOpd _ => true
  | .reservedOpe _ => true
  | .reservedOpf _ => true
  | .reservedRsvd _ rsvd _ => rsvd != 0

end Sys2Proof
end

