-- ==== Sys2Proof/Decode.lean ====
section
/-! DEFINITION. The decoder of the command word and, after it, the encoder (30_encoding.md R81, R85 to R88).
The decoder is total on all 65536 words. It takes the row with the full mask where one matches and the generic row
otherwise (R86), looks at RSVD before every other field (60_exceptions.md R229), and rejects by name the words that
no row of the opcode table covers; the step answers IllegalCommand to those (R87 (c), (d)). -/

namespace Sys2Proof

/-- The field `OP`, bits 15:12 (R81). -/
def opField (w : CmdWord) : BitVec 4 := w.extractLsb' 12 4

/-- The field `RSVD`, bits 11:8 (R81). -/
def rsvdField (w : CmdWord) : BitVec 4 := w.extractLsb' 8 4

/-- The field `ID`, bits 7:0 (R81). -/
def idField (w : CmdWord) : RegId := w.extractLsb' 0 8

/-- `CMD = (OP << 12) | (RSVD << 8) | ID` (R81). -/
def cmdWord (op rsvd : BitVec 4) (id : RegId) : CmdWord := op ++ rsvd ++ id

/-- Why the decoder rejects a word. Each case is an IllegalCommand of R87. -/
inductive Reject where
  /-- RESET, SAVE or RESTORE with `ID` not 0 (R87 (c)) -/
  | idNotZero
  /-- FIRE or ISSCHED with `ID` above 2 (R87 (d)) -/
  | noSuchTimer
  deriving DecidableEq, Repr

/-- RDP words: the full-mask rows, then the generic row (R85, R86). -/
def decodeRdp (id : RegId) : Instr :=
  match id.toNat with
  | 3 => .rdpTick
  | 5 => .rdpPcr
  | 6 => .rdpPic
  | 7 => .rdpSoftintSet
  | 8 => .rdpSoftintClr
  | 13 => .rdpTpc
  | 14 => .rdpTnpc
  | 15 => .rdpTstate
  | 16 => .rdpTt
  | 17 => .rdpPrivtick
  | 30 => .rdpHtstate
  | 31 => .rdpHintp
  | 32 => .rdpHver
  | _ => .rdp id

/-- WRP words: the full-mask rows, then the generic row (R85, R86). -/
def decodeWrp (id : RegId) : Instr :=
  match id.toNat with
  | 3 => .wrpTick
  | 5 => .wrpPcr
  | 6 => .wrpPic
  | 7 => .wrpSoftintSet
  | 8 => .wrpSoftintClr
  | 13 => .wrpTpc
  | 14 => .wrpTnpc
  | 15 => .wrpTstate
  | 16 => .wrpTt
  | 17 => .wrpPrivtick
  | 18 => .wrpTba
  | 19 => .wrpPstate
  | 30 => .wrpHtstate
  | 31 => .wrpHintp
  | 32 => .wrpHver
  | _ => .wrp id

/-- RDE words: the full-mask rows, then the generic row (R85, R86). -/
def decodeRde (id : RegId) : Instr :=
  match id.toNat with
  | 3 => .rdeTick
  | 4 => .rdeFprs
  | 5 => .rdePcr
  | 6 => .rdePic
  | 7 => .rdeSoftintSet
  | 8 => .rdeSoftintClr
  | 11 => .rdeStick
  | 17 => .rdePrivtick
  | 31 => .rdeHintp
  | 32 => .rdeHver
  | 35 => .rdeFsr
  | _ => .rde id

/-- WRE words: the full-mask rows, then the generic row (R85, R86). -/
def decodeWre (id : RegId) : Instr :=
  match id.toNat with
  | 3 => .wreTick
  | 5 => .wrePcr
  | 6 => .wrePic
  | 7 => .wreSoftintSet
  | 8 => .wreSoftintClr
  | 9 => .wreSoftint
  | 10 => .wreTickCmpr
  | 11 => .wreStick
  | 12 => .wreStickCmpr
  | 17 => .wrePrivtick
  | 19 => .wrePstate
  | 20 => .wreTl
  | 22 => .wreCwp
  | 28 => .wreGl
  | 31 => .wreHintp
  | 32 => .wreHver
  | 34 => .wreHstickCmpr
  | _ => .wre id

/-- RESET, SAVE and RESTORE take no identifier (R87 (c)). -/
def decodeNoId (id : RegId) (i : Instr) : Except Reject Instr :=
  if id = 0 then .ok i else .error .idNotZero

/-- FIRE and ISSCHED take a timer index 0, 1 or 2 (R85, R87 (d)). -/
def decodeTimer (id : RegId) (tick stick hstick : Instr) : Except Reject Instr :=
  match id.toNat with
  | 0 => .ok tick
  | 1 => .ok stick
  | 2 => .ok hstick
  | _ => .error .noSuchTimer

/-- The command a word with `RSVD = 0` spells, by its `OP` field (R85). -/
def decodeOp (op : BitVec 4) (id : RegId) : Except Reject Instr :=
  match op.toNat with
  | 0x0 => .ok (decodeRdp id)
  | 0x1 => .ok (decodeWrp id)
  | 0x2 => .ok (decodeRde id)
  | 0x3 => .ok (decodeWre id)
  | 0x4 => .ok (.name id)
  | 0x5 => decodeNoId id .reset
  | 0x6 => decodeNoId id .save
  | 0x7 => decodeNoId id .restore
  | 0x8 => decodeTimer id .fireTick .fireStick .fireHstick
  | 0x9 => decodeTimer id .isschedTick .isschedStick .isschedHstick
  | 0xA => .ok (.reservedOpa id)
  | 0xB => .ok (.reservedOpb id)
  | 0xC => .ok (.reservedOpc id)
  | 0xD => .ok (.reservedOpd id)
  | 0xE => .ok (.reservedOpe id)
  | _ => .ok (.reservedOpf id)

/-- The decoder: a word with `RSVD` not 0 is the row RESERVED.RSVD whatever its other bits say (R229). -/
def decode (w : CmdWord) : Except Reject Instr :=
  if rsvdField w = 0 then decodeOp (opField w) (idField w)
  else .ok (.reservedRsvd (opField w) (rsvdField w) (idField w))

/-- The decoder on a word numbered as spec/opcode_table.json numbers it. A command is one 16-bit word, so the word's
low 16 bits are all there is (R89). -/
def decodeTableWord (nbits w : Nat) : Option Instr :=
  match decode (BitVec.ofNat 16 (w % 2 ^ nbits)) with
  | .ok i => some i
  | .error _ => none

/-- The encoder: the command word of a term, from the table's match values (R85). -/
def encode (i : Instr) : CmdWord :=
  match i with
  | .rdp id => cmdWord 0x0 0 id
  | .rdpTpc => 0x000D
  | .rdpTnpc => 0x000E
  | .rdpTstate => 0x000F
  | .rdpTt => 0x0010
  | .rdpHtstate => 0x001E
  | .rdpTick => 0x0003
  | .rdpPrivtick => 0x0011
  | .rdpPcr => 0x0005
  | .rdpPic => 0x0006
  | .rdpHintp => 0x001F
  | .rdpHver => 0x0020
  | .rdpSoftintSet => 0x0007
  | .rdpSoftintClr => 0x0008
  | .wrp id => cmdWord 0x1 0 id
  | .wrpTpc => 0x100D
  | .wrpTnpc => 0x100E
  | .wrpTstate => 0x100F
  | .wrpTt => 0x1010
  | .wrpHtstate => 0x101E
  | .wrpTba => 0x1012
  | .wrpPstate => 0x1013
  | .wrpTick => 0x1003
  | .wrpPrivtick => 0x1011
  | .wrpPcr => 0x1005
  | .wrpPic => 0x1006
  | .wrpHintp => 0x101F
  | .wrpHver => 0x1020
  | .wrpSoftintSet => 0x1007
  | .wrpSoftintClr => 0x1008
  | .rde id => cmdWord 0x2 0 id
  | .rdeTick => 0x2003
  | .rdePrivtick => 0x2011
  | .rdeHver => 0x2020
  | .rdeFprs => 0x2004
  | .rdeFsr => 0x2023
  | .rdePcr => 0x2005
  | .rdePic => 0x2006
  | .rdeHintp => 0x201F
  | .rdeSoftintSet => 0x2007
  | .rdeSoftintClr => 0x2008
  | .rdeStick => 0x200B
  | .wre id => cmdWord 0x3 0 id
  | .wreTick => 0x3003
  | .wrePrivtick => 0x3011
  | .wreTickCmpr => 0x300A
  | .wreStickCmpr => 0x300C
  | .wreHstickCmpr => 0x3022
  | .wrePstate => 0x3013
  | .wreTl => 0x3014
  | .wreCwp => 0x3016
  | .wreGl => 0x301C
  | .wreSoftintSet => 0x3007
  | .wreSoftintClr => 0x3008
  | .wreSoftint => 0x3009
  | .wrePcr => 0x3005
  | .wrePic => 0x3006
  | .wreHintp => 0x301F
  | .wreHver => 0x3020
  | .wreStick => 0x300B
  | .name id => cmdWord 0x4 0 id
  | .reset => 0x5000
  | .save => 0x6000
  | .restore => 0x7000
  | .fireTick => 0x8000
  | .fireStick => 0x8001
  | .fireHstick => 0x8002
  | .isschedTick => 0x9000
  | .isschedStick => 0x9001
  | .isschedHstick => 0x9002
  | .reservedOpa id => cmdWord 0xA 0 id
  | .reservedOpb id => cmdWord 0xB 0 id
  | .reservedOpc id => cmdWord 0xC 0 id
  | .reservedOpd id => cmdWord 0xD 0 id
  | .reservedOpe id => cmdWord 0xE 0 id
  | .reservedOpf id => cmdWord 0xF 0 id
  | .reservedRsvd op rsvd id => cmdWord op rsvd id

end Sys2Proof
end

