-- ==== Sys2Proof/Machine/Flags.lean ====
section
/-! DEFINITION. The bit-level computations of the block. It has no condition flags: CCR is an opaque word and no
command sets a flag (10_state.md R34). The flag bits it does have are bit 63 of a compare register (R25) and bit 63
of the tick counter (R26). Here are the masks of 00_scope.md R10, those bits, the counter arithmetic (R140, R141)
and the bytes of a word (R206). -/

namespace Sys2Proof.Machine

/-- `M63`: bits 62..0 (R10). -/
def M63 : Word := 0x7FFFFFFFFFFFFFFF

/-- `B63`: bit 63 (R10). -/
def B63 : Word := 0x8000000000000000

/-- `MTICK`: bits 62..2 (R10). -/
def MTICK : Word := 0x7FFFFFFFFFFFFFFC

/-- `MTBA`: all bits but the low 15 (R10). -/
def MTBA : Word := 0xFFFFFFFFFFFF8000

/-- The field `DIS` of a compare register: bit 63 set means disabled (R25, 90_conflicts.md C6). -/
def disBit (v : Word) : Bool := v.getLsbD 63

/-- The field `CMP` of a compare register: `value & M63` (R25). -/
def cmpField (v : Word) : Word := v &&& M63

/-- The count of the tick counter as RDE returns it: bits 62..2 of the elapsed count, the stored enable bit in bit 63,
bits 1..0 zero (R140, 90_conflicts.md C3). -/
def tickCount (ic stored : Word) : Word :=
  ((ic - (stored &&& M63)) &&& MTICK) ||| (stored &&& B63)

/-- The word WRE stores for a written count `v`: the re-base value and the enable bit of `v` (R141). -/
def tickRebase (ic v : Word) : Word := ((ic - v) &&& M63) ||| (v &&& B63)

/-- The 8 bytes of a word, most significant first (R206). -/
def wordBytes (w : Word) : List Byte :=
  [w.extractLsb' 56 8, w.extractLsb' 48 8, w.extractLsb' 40 8, w.extractLsb' 32 8,
   w.extractLsb' 24 8, w.extractLsb' 16 8, w.extractLsb' 8 8, w.extractLsb' 0 8]

/-- The word whose bytes these are, most significant first (R206). -/
def bytesWord (b7 b6 b5 b4 b3 b2 b1 b0 : Byte) : Word :=
  b7 ++ b6 ++ b5 ++ b4 ++ b3 ++ b2 ++ b1 ++ b0

end Sys2Proof.Machine
end

