-- ==== Sys2Proof/Config.lean ====
section
/-! DEFINITION. The implementation parameters of 00_scope.md R8.
The parameters the spec marks OPEN are fields of `Params`; the three it marks DECIDED are fields of `Config`
whose default is the decided value. The value of the OPEN parameters on the hardware is the constant
`Config.openParams`, which has no body: nothing can be proved of it but the constraints that `Params` carries.
A state carries its configuration as a field that no step changes, so a statement about every state is a
statement about every configuration (assumption log 1). -/

namespace Sys2Proof

/-- `TICK_CMPR_REF` (R8, R171): which counter value the tick compare is measured against. -/
inductive TickCmprRef where
  /-- the counter's current count, `(IC - (tick & M63)) & M63` -/
  | live
  /-- the stored re-base word, `tick & M63` -/
  | stored
  deriving DecidableEq, Repr

/-- `CMPR_STALE_POLICY` (R8, R170): whether every compare write cancels the old schedule. -/
inductive StalePolicy where
  | cancel
  | keep
  deriving DecidableEq, Repr

/-- `SOFTINT_SETCLR_POLICY` (R8, R108): what a write to SOFTINT_SET or SOFTINT_CLR does. -/
inductive SoftintPolicy where
  | store
  | setclr
  deriving DecidableEq, Repr

/-- The OPEN parameters of R8, each with the constraint R8 puts on it: a value that breaks one cannot be built
(93_implementation_defined.md I1, I3, I16 ask a model to refuse it).
The default of a field is no claim about the hardware: it only shows Lean that the type is inhabited. -/
structure Params where
  /-- `MAXTL`: the maximum supported trap level, capacity of each per-trap-level array (R23) -/
  maxTL : Nat := 6
  /-- `MAXGL`: the maximum global-register-set count, reported by HVER (R31) -/
  maxGL : Nat := 3
  /-- `NWINDOWS`: the window count, reported by HVER (R31) -/
  nWindows : Nat := 8
  /-- `PSTATE_MASK`: the legal bit-field union of PSTATE (R28) -/
  pstateMask : Word := 0
  /-- `HPSTATE_RESET_BIT`: the bit of HPSTATE forced to 1 at reset (R29) -/
  hpstateResetBit : Nat := 2
  /-- `STRAND_STS_RESET`: the reset value of the strand status register (R38) -/
  strandStsReset : Word := 1
  /-- `TIME_SCALE`: time units per counter unit in the delay sent to the scheduler (R170) -/
  timeScale : Nat := 1
  /-- `TRAP_DELIVERY_SUPPLIED`: whether an integrator supplied the trap-delivery body (R180) -/
  trapDeliverySupplied : Bool := false
  maxTL_pos : 1 ≤ maxTL := by decide
  maxTL_le : maxTL ≤ 255 := by decide
  maxGL_le : maxGL ≤ 255 := by decide
  nWindows_le : nWindows ≤ 255 := by decide
  hpstateResetBit_lt : hpstateResetBit < 64 := by decide
  strandStsReset_ne : strandStsReset ≠ 0 := by decide
  timeScale_pos : 1 ≤ timeScale := by decide
  deriving DecidableEq, Repr, Inhabited

/-- A configuration: the OPEN parameters with the three DECIDED ones at their decided values by default
(92_eei_decisions.md D12, D18, D19). -/
structure Config extends Params where
  tickCmprRef : TickCmprRef := .live
  stalePolicy : StalePolicy := .cancel
  softintPolicy : SoftintPolicy := .store
  deriving DecidableEq, Repr

/-- The OPEN parameters as this hardware fixes them: a constant with no body, so that a claim about it holds
whatever they are (R8). -/
opaque Config.openParams : Params

/-- The configuration of the hardware: the OPEN parameters at their unknown values, the DECIDED ones at the
values of D12 (STORE), D18 (CANCEL) and D19 (LIVE). -/
def Config.hardware : Config :=
  { Config.openParams with
    tickCmprRef := .live
    stalePolicy := .cancel
    softintPolicy := .store }

end Sys2Proof
end

