-- ==== Sys2Proof/Machine/Bank.lean ====
section
/-! DEFINITION. The register bank (10_state.md R22): its stored fields, their values at reset (70_reset_and_hazards.md
R260) and their order in a SAVE image (43_persistence.md R201). -/

namespace Sys2Proof.Machine

/-- The 36 scalar stored fields, in the order of the "save" column of R22. -/
inductive Scalar where
  | y
  | ccr
  | asi
  | tick
  | fprs
  | softint
  | tickCmpr
  | stick
  | stickCmpr
  | tba
  | pstate
  | tl
  | pil
  | cwp
  | cansave
  | canrestore
  | cleanwin
  | otherwin
  | wstate
  | gl
  | hpstate
  | strandSts
  | hstickCmpr
  | fsr
  | mmuPContext
  | mmuSContext
  | mmuPartId
  | mmuLsuCtrl
  | itlbC0Config
  | itlbC0Status
  | itlbCxConfig
  | itlbCxStatus
  | dtlbC0Config
  | dtlbC0Status
  | dtlbCxConfig
  | dtlbCxStatus
  deriving DecidableEq, Repr

/-- The five per-trap-level arrays (R23), in the order of the "save" column of R22. -/
inductive TrapReg where
  | tpc
  | tnpc
  | tstate
  | tt
  | htstate
  deriving DecidableEq, Repr

/-- The stored fields of R22, each a 64-bit word. A per-trap-level array has `MAXTL` elements, element 0 for trap
level 1 (R23); `Bank.wf` says so. -/
structure Bank where
  /-- accumulator -/
  y : Word
  /-- condition flags -/
  ccr : Word
  /-- address-space identifier -/
  asi : Word
  /-- free-running counter, the re-base word with the enable bit at bit 63 (R26) -/
  tick : Word
  /-- floating-point enable part -/
  fprs : Word
  /-- software-interrupt level -/
  softint : Word
  /-- compare register of the free-running counter (R25) -/
  tickCmpr : Word
  /-- system counter -/
  stick : Word
  /-- compare register of the system counter (R25) -/
  stickCmpr : Word
  /-- trap base address; its low 15 bits are dropped on write (R27) -/
  tba : Word
  /-- privileged state word, masked on write (R28) -/
  pstate : Word
  /-- trap level (R37) -/
  tl : Word
  /-- interrupt level -/
  pil : Word
  /-- current-window pointer -/
  cwp : Word
  /-- save count -/
  cansave : Word
  /-- restore count -/
  canrestore : Word
  /-- clean-window count -/
  cleanwin : Word
  /-- other-window count -/
  otherwin : Word
  /-- window state -/
  wstate : Word
  /-- global-level selector -/
  gl : Word
  /-- hyperprivileged state word (R29) -/
  hpstate : Word
  /-- strand status (R38) -/
  strandSts : Word
  /-- hyperprivileged compare register (R25) -/
  hstickCmpr : Word
  /-- floating-point status part -/
  fsr : Word
  /-- primary context identifier -/
  mmuPContext : Word
  /-- secondary context identifier -/
  mmuSContext : Word
  /-- partition id -/
  mmuPartId : Word
  /-- load/store-unit control -/
  mmuLsuCtrl : Word
  /-- instruction-TLB configuration, context-zero class -/
  itlbC0Config : Word
  /-- instruction-TLB status, context-zero class -/
  itlbC0Status : Word
  /-- instruction-TLB configuration, indexed class -/
  itlbCxConfig : Word
  /-- instruction-TLB status, indexed class -/
  itlbCxStatus : Word
  /-- data-TLB configuration, context-zero class -/
  dtlbC0Config : Word
  /-- data-TLB status, context-zero class -/
  dtlbC0Status : Word
  /-- data-TLB configuration, indexed class -/
  dtlbCxConfig : Word
  /-- data-TLB status, indexed class -/
  dtlbCxStatus : Word
  /-- trapped program counter, per trap level (R23) -/
  tpc : List Word
  /-- trapped next-PC, per trap level (R23) -/
  tnpc : List Word
  /-- trapped state word, per trap level (R23) -/
  tstate : List Word
  /-- trap type, per trap level (R23) -/
  tt : List Word
  /-- hyperprivileged trapped-state word, per trap level (R23) -/
  htstate : List Word
  /-- the scratch pad, 8 slots (R24) -/
  scratch : Vector Word 8
  deriving DecidableEq, Repr

/-- Every per-trap-level array has exactly `n` elements (R23, with `n` the parameter `MAXTL`). -/
def Bank.wf (n : Nat) (b : Bank) : Bool :=
  b.tpc.length == n && b.tnpc.length == n && b.tstate.length == n && b.tt.length == n && b.htstate.length == n

/-- `S.f` for a scalar field f (R11). -/
def Bank.get (b : Bank) (f : Scalar) : Word :=
  match f with
  | .y => b.y
  | .ccr => b.ccr
  | .asi => b.asi
  | .tick => b.tick
  | .fprs => b.fprs
  | .softint => b.softint
  | .tickCmpr => b.tickCmpr
  | .stick => b.stick
  | .stickCmpr => b.stickCmpr
  | .tba => b.tba
  | .pstate => b.pstate
  | .tl => b.tl
  | .pil => b.pil
  | .cwp => b.cwp
  | .cansave => b.cansave
  | .canrestore => b.canrestore
  | .cleanwin => b.cleanwin
  | .otherwin => b.otherwin
  | .wstate => b.wstate
  | .gl => b.gl
  | .hpstate => b.hpstate
  | .strandSts => b.strandSts
  | .hstickCmpr => b.hstickCmpr
  | .fsr => b.fsr
  | .mmuPContext => b.mmuPContext
  | .mmuSContext => b.mmuSContext
  | .mmuPartId => b.mmuPartId
  | .mmuLsuCtrl => b.mmuLsuCtrl
  | .itlbC0Config => b.itlbC0Config
  | .itlbC0Status => b.itlbC0Status
  | .itlbCxConfig => b.itlbCxConfig
  | .itlbCxStatus => b.itlbCxStatus
  | .dtlbC0Config => b.dtlbC0Config
  | .dtlbC0Status => b.dtlbC0Status
  | .dtlbCxConfig => b.dtlbCxConfig
  | .dtlbCxStatus => b.dtlbCxStatus

/-- `S.f <- v` for a scalar field f (R11). -/
def Bank.set (b : Bank) (f : Scalar) (v : Word) : Bank :=
  match f with
  | .y => { b with y := v }
  | .ccr => { b with ccr := v }
  | .asi => { b with asi := v }
  | .tick => { b with tick := v }
  | .fprs => { b with fprs := v }
  | .softint => { b with softint := v }
  | .tickCmpr => { b with tickCmpr := v }
  | .stick => { b with stick := v }
  | .stickCmpr => { b with stickCmpr := v }
  | .tba => { b with tba := v }
  | .pstate => { b with pstate := v }
  | .tl => { b with tl := v }
  | .pil => { b with pil := v }
  | .cwp => { b with cwp := v }
  | .cansave => { b with cansave := v }
  | .canrestore => { b with canrestore := v }
  | .cleanwin => { b with cleanwin := v }
  | .otherwin => { b with otherwin := v }
  | .wstate => { b with wstate := v }
  | .gl => { b with gl := v }
  | .hpstate => { b with hpstate := v }
  | .strandSts => { b with strandSts := v }
  | .hstickCmpr => { b with hstickCmpr := v }
  | .fsr => { b with fsr := v }
  | .mmuPContext => { b with mmuPContext := v }
  | .mmuSContext => { b with mmuSContext := v }
  | .mmuPartId => { b with mmuPartId := v }
  | .mmuLsuCtrl => { b with mmuLsuCtrl := v }
  | .itlbC0Config => { b with itlbC0Config := v }
  | .itlbC0Status => { b with itlbC0Status := v }
  | .itlbCxConfig => { b with itlbCxConfig := v }
  | .itlbCxStatus => { b with itlbCxStatus := v }
  | .dtlbC0Config => { b with dtlbC0Config := v }
  | .dtlbC0Status => { b with dtlbC0Status := v }
  | .dtlbCxConfig => { b with dtlbCxConfig := v }
  | .dtlbCxStatus => { b with dtlbCxStatus := v }

/-- The array of a per-trap-level register (R23). -/
def Bank.array (b : Bank) (a : TrapReg) : List Word :=
  match a with
  | .tpc => b.tpc
  | .tnpc => b.tnpc
  | .tstate => b.tstate
  | .tt => b.tt
  | .htstate => b.htstate

/-- Replace the array of a per-trap-level register. -/
def Bank.setArray (b : Bank) (a : TrapReg) (ws : List Word) : Bank :=
  match a with
  | .tpc => { b with tpc := ws }
  | .tnpc => { b with tnpc := ws }
  | .tstate => { b with tstate := ws }
  | .tt => { b with tt := ws }
  | .htstate => { b with htstate := ws }

/-- `S.a[i]` (R11). A bank that keeps `Bank.wf` has every element an access can reach (assumption log 9). -/
def Bank.element (b : Bank) (a : TrapReg) (i : Nat) : Word := (b.array a).getD i 0

/-- `S.a[i] <- v` (R11): no other element changes (R23). -/
def Bank.setElement (b : Bank) (a : TrapReg) (i : Nat) (v : Word) : Bank :=
  b.setArray a ((b.array a).set i v)

/-- `S.scratch[n]` (R24). -/
def Bank.slot (b : Bank) (n : Fin 8) : Word := b.scratch[n]

/-- `S.scratch[n] <- v`: each identifier writes its own slot (R24, 90_conflicts.md C5). -/
def Bank.setSlot (b : Bank) (n : Fin 8) (v : Word) : Bank :=
  { b with scratch := b.scratch.set n v }

/-- The bank right after RESET (R260, R261): every field 0 but `hpstate` and `strandSts`. -/
def Bank.reset (c : Config) : Bank where
  y := 0
  ccr := 0
  asi := 0
  tick := 0
  fprs := 0
  softint := 0
  tickCmpr := 0
  stick := 0
  stickCmpr := 0
  tba := 0
  pstate := 0
  tl := 0
  pil := 0
  cwp := 0
  cansave := 0
  canrestore := 0
  cleanwin := 0
  otherwin := 0
  wstate := 0
  gl := 0
  hpstate := 1 <<< c.hpstateResetBit
  strandSts := c.strandStsReset
  hstickCmpr := 0
  fsr := 0
  mmuPContext := 0
  mmuSContext := 0
  mmuPartId := 0
  mmuLsuCtrl := 0
  itlbC0Config := 0
  itlbC0Status := 0
  itlbCxConfig := 0
  itlbCxStatus := 0
  dtlbC0Config := 0
  dtlbC0Status := 0
  dtlbCxConfig := 0
  dtlbCxStatus := 0
  tpc := List.replicate c.maxTL 0
  tnpc := List.replicate c.maxTL 0
  tstate := List.replicate c.maxTL 0
  tt := List.replicate c.maxTL 0
  htstate := List.replicate c.maxTL 0
  scratch := Vector.replicate 8 0

/-- `SAVE_LEN = 44 + 5*MAXTL`, the number of words of an image (R8, R201). -/
def saveLen (c : Config) : Nat := 5 * c.maxTL + 44

/-- The SAVE image of the bank: word i is the raw stored field whose "save" position in R22 is i (R201, R202). -/
def Bank.image (b : Bank) : List Word :=
  [b.y, b.ccr, b.asi, b.tick, b.fprs, b.softint,
   b.tickCmpr, b.stick, b.stickCmpr, b.tba, b.pstate, b.tl,
   b.pil, b.cwp, b.cansave, b.canrestore, b.cleanwin, b.otherwin,
   b.wstate, b.gl, b.hpstate, b.strandSts, b.hstickCmpr, b.fsr,
   b.mmuPContext, b.mmuSContext, b.mmuPartId, b.mmuLsuCtrl, b.itlbC0Config, b.itlbC0Status,
   b.itlbCxConfig, b.itlbCxStatus, b.dtlbC0Config, b.dtlbC0Status, b.dtlbCxConfig, b.dtlbCxStatus] ++
  b.tpc ++ b.tnpc ++ b.tstate ++ b.tt ++ b.htstate ++ b.scratch.toList

/-- The bank whose image is `img`: every field raw, at its "save" position (R203). `n` is `MAXTL`. The image has
`SAVE_LEN` words wherever RESTORE uses this. -/
def Bank.ofImage (n : Nat) (img : List Word) : Bank :=
  let w (i : Nat) : Word := img.getD i 0
  let slice (off : Nat) : List Word := (img.drop off).take n
  { y := w 0
    ccr := w 1
    asi := w 2
    tick := w 3
    fprs := w 4
    softint := w 5
    tickCmpr := w 6
    stick := w 7
    stickCmpr := w 8
    tba := w 9
    pstate := w 10
    tl := w 11
    pil := w 12
    cwp := w 13
    cansave := w 14
    canrestore := w 15
    cleanwin := w 16
    otherwin := w 17
    wstate := w 18
    gl := w 19
    hpstate := w 20
    strandSts := w 21
    hstickCmpr := w 22
    fsr := w 23
    mmuPContext := w 24
    mmuSContext := w 25
    mmuPartId := w 26
    mmuLsuCtrl := w 27
    itlbC0Config := w 28
    itlbC0Status := w 29
    itlbCxConfig := w 30
    itlbCxStatus := w 31
    dtlbC0Config := w 32
    dtlbC0Status := w 33
    dtlbCxConfig := w 34
    dtlbCxStatus := w 35
    tpc := slice 36
    tnpc := slice (36 + 1 * n)
    tstate := slice (36 + 2 * n)
    tt := slice (36 + 3 * n)
    htstate := slice (36 + 4 * n)
    scratch := Vector.ofFn fun j => w (36 + 5 * n + j) }

end Sys2Proof.Machine
end

