-- ==== Sys2Proof/Machine/State.lean ====
section
/-! DEFINITION. The state of the block as plain data: the register bank, the timer events, the fault record
(10_state.md R22, R32, R39), the ports (30_encoding.md R83, R84), the commands presented to it, and its
configuration. The block has no memory, no general register and no program counter (R20, R21, R60). -/

namespace Sys2Proof.Machine

/-- Why a step of the machine stops. There is NO such reason: every command answers, with OK or with an error, and
"the block itself keeps running after an error" (R222), so an error of R221 is a next state (assumption log 2). -/
inductive Fault where
  deriving DecidableEq, Repr

/-- Why a command has no meaning in the model. -/
inductive Refusal where
  /-- Raised by an arm of `exec` for a command whose meaning is not written yet. Safe: nothing can be proved of a run
  that reaches it. No arm raises it now. -/
  | notModelled (mnemonic : String)
  deriving DecidableEq, Repr

/-- State of one timer event `E[k]` (R32). -/
structure TimerEvent where
  /-- the handle exists -/
  alloc : Bool
  /-- the event is scheduled: Armed when true, Unarmed when false -/
  armed : Bool
  /-- the delay last sent with a schedule request -/
  delay : Int
  deriving DecidableEq, Repr

/-- The three timer events of the block (R32). -/
structure Events where
  tick : TimerEvent
  stick : TimerEvent
  hstick : TimerEvent
  deriving DecidableEq, Repr

/-- What NotImplemented names: "the identifier, or the timer index for FIRE" (R221). -/
inductive Unmodelled where
  | register (id : RegId)
  | fireBody (k : Timer)
  deriving DecidableEq, Repr

/-- The error codes of R221, each with the info it records. An error ends a command (R220). It is no fault of the
model: the command answers it on STATUS and the next command is performed normally (R222). -/
inductive Err where
  /-- an identifier outside 0 to 55 (R224) -/
  | unknownRegister (id : RegId)
  /-- a register or a trap body the block does not model (R225) -/
  | notImplemented (what : Unmodelled)
  /-- a per-trap-level access while TL is outside 1 to MAXTL; records the value of TL (R226) -/
  | invalidTrapLevel (tl : Word)
  /-- a command word or operand that spells no command; records the command word (R227) -/
  | illegalCommand (cmd : CmdWord)
  deriving DecidableEq, Repr

/-- The fault record: code and info are those of `err`; `cmd` is the command word (R223). -/
structure FaultRecord where
  err : Err
  cmd : CmdWord
  deriving DecidableEq, Repr

/-- The data returned with OK (R83). -/
inductive RespData where
  /-- WRP, WRE, RESET, RESTORE, FIRE -/
  | none
  /-- RDATA of RDP, RDE, ISSCHED -/
  | word (v : Word)
  /-- the name string of NAME -/
  | name (n : String)
  /-- the image of SAVE -/
  | image (ws : List Word)
  deriving DecidableEq, Repr

/-- The response of a command: OK with its data, or one error and no data (R83, R220). -/
inductive Response where
  | ok (d : RespData)
  | error (e : Err)
  deriving DecidableEq, Repr

/-- The kind of a register-window notification (R84). -/
inductive CtxKind where
  | currentWindow
  | globalSet
  deriving DecidableEq, Repr

/-- The output strobes of R84. -/
inductive Strobe where
  | ctxChange (kind : CtxKind) (value : Word)
  | softintWr (id : RegId) (value : Word)
  | sched (k : Timer) (delay : Int)
  | desched (k : Timer)
  | trapReq (k : Timer)
  deriving DecidableEq, Repr

/-- One command as it is presented: the command word, its operands (R82), and the IC and SREF samples taken once at
its start (R72). The samples of two commands are not related by any law (R277). -/
structure Request where
  cmd : CmdWord
  wdata : Word
  img : List Word
  ic : Word
  sref : Word
  deriving DecidableEq, Repr

/-- The state of the block. `cfg` never changes; `pending` is what the outside has presented and the block has not
yet performed, in the order of R68 and R69 (assumption log 3); `port` is the command being performed. -/
structure State where
  /-- the implementation parameters (R8), a constant of the machine -/
  cfg : Config
  /-- the stored fields (R22) -/
  bank : Bank
  /-- the timer events `E[k]` (R32) -/
  events : Events
  /-- the fault record (R223) -/
  fault : Option FaultRecord
  /-- the response of the latest command (R83) -/
  resp : Response
  /-- the strobes the latest command emitted, first one first (R84) -/
  strobes : List Strobe
  /-- the command word, the operands and the samples of the command being performed (R72, R82) -/
  port : Request
  /-- the commands still to be performed -/
  pending : List Request
  deriving DecidableEq, Repr

/-- What a step answers. -/
abbrev Result := Host.Outcome State Fault Refusal

/-- A timer event that was never written: `alloc = false`, `armed = false`, `delay = 0` (R32). -/
def TimerEvent.initial : TimerEvent := { alloc := false, armed := false, delay := 0 }

/-- The events of a block on which no compare register was written (R32, R264). -/
def Events.initial : Events :=
  { tick := TimerEvent.initial, stick := TimerEvent.initial, hstick := TimerEvent.initial }

/-- Input ports with nothing presented (assumption log 3). -/
def Request.quiet : Request := { cmd := 0, wdata := 0, img := [], ic := 0, sref := 0 }

/-- The state right after RESET of a block with configuration `c` (R260, R261, R278 (a)): the bank at its reset
values, every event Unarmed, the fault record empty, the response RESET gives (R83), no strobe, nothing presented
(assumption log 7). -/
def State.resetWith (c : Config) : State :=
  { cfg := c
    bank := Bank.reset c
    events := Events.initial
    fault := none
    resp := .ok .none
    strobes := []
    port := Request.quiet
    pending := [] }

/-- The machine right after reset: the hardware's own configuration, whose OPEN parameters have no known value. -/
def State.reset : State := State.resetWith Config.hardware

end Sys2Proof.Machine
end

