-- ==== Sys2Proof/Machine/Registers.lean ====
section
/-! DEFINITION. The identifier map of 10_state.md R30: what each of the identifiers 0 to 55 reaches, and its name.
An identifier of 56 to 255 names nothing (R60, R88). -/

namespace Sys2Proof.Machine

/-- What an identifier reaches: the column "field" of R30. -/
inductive Target where
  /-- a scalar stored field -/
  | scalar (f : Scalar)
  /-- the element `S.tl - 1` of a per-trap-level array (R23) -/
  | trap (a : TrapReg)
  /-- a scratch-pad slot (R24) -/
  | scratch (n : Fin 8)
  /-- SOFTINT_SET: writes SOFTINT, cannot be read (R108) -/
  | softintSet
  /-- SOFTINT_CLR: writes SOFTINT, cannot be read (R108) -/
  | softintClr
  /-- PCR, PIC, HINTP and HVER: no stored field (R107) -/
  | noStorage
  deriving DecidableEq, Repr

/-- The identifier map (R30). TICK and its alias PRIVTICK reach one field (R106). -/
def target (id : RegId) : Option Target :=
  match id.toNat with
  | 0 => some (.scalar .y)
  | 1 => some (.scalar .ccr)
  | 2 => some (.scalar .asi)
  | 3 => some (.scalar .tick)
  | 4 => some (.scalar .fprs)
  | 5 => some (.noStorage)
  | 6 => some (.noStorage)
  | 7 => some (.softintSet)
  | 8 => some (.softintClr)
  | 9 => some (.scalar .softint)
  | 10 => some (.scalar .tickCmpr)
  | 11 => some (.scalar .stick)
  | 12 => some (.scalar .stickCmpr)
  | 13 => some (.trap .tpc)
  | 14 => some (.trap .tnpc)
  | 15 => some (.trap .tstate)
  | 16 => some (.trap .tt)
  | 17 => some (.scalar .tick)
  | 18 => some (.scalar .tba)
  | 19 => some (.scalar .pstate)
  | 20 => some (.scalar .tl)
  | 21 => some (.scalar .pil)
  | 22 => some (.scalar .cwp)
  | 23 => some (.scalar .cansave)
  | 24 => some (.scalar .canrestore)
  | 25 => some (.scalar .cleanwin)
  | 26 => some (.scalar .otherwin)
  | 27 => some (.scalar .wstate)
  | 28 => some (.scalar .gl)
  | 29 => some (.scalar .hpstate)
  | 30 => some (.trap .htstate)
  | 31 => some (.noStorage)
  | 32 => some (.noStorage)
  | 33 => some (.scalar .strandSts)
  | 34 => some (.scalar .hstickCmpr)
  | 35 => some (.scalar .fsr)
  | 36 => some (.scalar .mmuPContext)
  | 37 => some (.scalar .mmuSContext)
  | 38 => some (.scalar .mmuPartId)
  | 39 => some (.scalar .mmuLsuCtrl)
  | 40 => some (.scalar .itlbC0Config)
  | 41 => some (.scalar .itlbC0Status)
  | 42 => some (.scalar .itlbCxConfig)
  | 43 => some (.scalar .itlbCxStatus)
  | 44 => some (.scalar .dtlbC0Config)
  | 45 => some (.scalar .dtlbC0Status)
  | 46 => some (.scalar .dtlbCxConfig)
  | 47 => some (.scalar .dtlbCxStatus)
  | 48 => some (.scratch 0)
  | 49 => some (.scratch 1)
  | 50 => some (.scratch 2)
  | 51 => some (.scratch 3)
  | 52 => some (.scratch 4)
  | 53 => some (.scratch 5)
  | 54 => some (.scratch 6)
  | 55 => some (.scratch 7)
  | _ => none

/-- The name of an identifier: the column "name" of R30 (R110). -/
def nameOf (id : RegId) : Option String :=
  match id.toNat with
  | 0 => some "Y"
  | 1 => some "CCR"
  | 2 => some "ASI"
  | 3 => some "TICK"
  | 4 => some "FPRS"
  | 5 => some "PCR"
  | 6 => some "PIC"
  | 7 => some "SOFTINT_SET"
  | 8 => some "SOFTINT_CLR"
  | 9 => some "SOFTINT"
  | 10 => some "TICK_CMPR"
  | 11 => some "STICK"
  | 12 => some "STICK_CMPR"
  | 13 => some "TPC"
  | 14 => some "TNPC"
  | 15 => some "TSTATE"
  | 16 => some "TT"
  | 17 => some "PRIVTICK"
  | 18 => some "TBA"
  | 19 => some "PSTATE"
  | 20 => some "TL"
  | 21 => some "PIL"
  | 22 => some "CWP"
  | 23 => some "CANSAVE"
  | 24 => some "CANRESTORE"
  | 25 => some "CLEANWIN"
  | 26 => some "OTHERWIN"
  | 27 => some "WSTATE"
  | 28 => some "GL"
  | 29 => some "HPSTATE"
  | 30 => some "HTSTATE"
  | 31 => some "HINTP"
  | 32 => some "HVER"
  | 33 => some "STRAND_STS"
  | 34 => some "HSTICK_CMPR"
  | 35 => some "FSR"
  | 36 => some "MMU_P_CONTEXT"
  | 37 => some "MMU_S_CONTEXT"
  | 38 => some "MMU_PART_ID"
  | 39 => some "MMU_LSU_CTRL"
  | 40 => some "ITLB_C0_CONFIG"
  | 41 => some "ITLB_C0_STATUS"
  | 42 => some "ITLB_CX_CONFIG"
  | 43 => some "ITLB_CX_STATUS"
  | 44 => some "DTLB_C0_CONFIG"
  | 45 => some "DTLB_C0_STATUS"
  | 46 => some "DTLB_CX_CONFIG"
  | 47 => some "DTLB_CX_STATUS"
  | 48 => some "SCRATCHPAD0"
  | 49 => some "SCRATCHPAD1"
  | 50 => some "SCRATCHPAD2"
  | 51 => some "SCRATCHPAD3"
  | 52 => some "SCRATCHPAD4"
  | 53 => some "SCRATCHPAD5"
  | 54 => some "SCRATCHPAD6"
  | 55 => some "SCRATCHPAD7"
  | _ => none

end Sys2Proof.Machine
end

