-- ==== Sys2Proof/Machine/Operands.lean ====
section
/-! DEFINITION. What a command reads: its operands and samples from the port (30_encoding.md R82, R84), a register
through the identifier map (40_plain_access.md R100, R101, R106 to R108, R111), and the reference counters of the
compares (42_timer_compare.md R171, R172). No read changes anything (20_memory.md R65). -/

namespace Sys2Proof.Machine

/-- `WDATA`, used whole as the value `v` of the command's rule (R82). -/
def State.wdata (s : State) : Word := s.port.wdata

/-- The image operand of RESTORE (R82). -/
def State.img (s : State) : List Word := s.port.img

/-- The `IC` sample of the command (R72, R84). -/
def State.ic (s : State) : Word := s.port.ic

/-- The `SREF` sample of the command (R72, R84). -/
def State.sref (s : State) : Word := s.port.sref

/-- `tlcheck()`: the trap level of a per-trap-level access, legal when `1 <= S.tl <= MAXTL` (R23, R226). -/
def tlCheck (s : State) : Except Err Nat :=
  if 1 ≤ s.bank.tl.toNat ∧ s.bank.tl.toNat ≤ s.cfg.maxTL then .ok s.bank.tl.toNat
  else .error (.invalidTrapLevel s.bank.tl)

/-- Read a per-trap-level register: element `t - 1` of its array (R101). -/
def readTrap (a : TrapReg) (s : State) : Except Err Word :=
  match tlCheck s with
  | .ok t => .ok (s.bank.element a (t - 1))
  | .error e => .error e

/-- The plain read of any identifier (R100, R101, R106 to R108, R111). -/
def readPlain (id : RegId) (s : State) : Except Err Word :=
  match target id with
  | none => .error (.unknownRegister id)
  | some (.scalar f) => .ok (s.bank.get f)
  | some (.trap a) => readTrap a s
  | some (.scratch n) => .ok (s.bank.slot n)
  | some .softintSet => .error (.notImplemented (.register id))
  | some .softintClr => .error (.notImplemented (.register id))
  | some .noStorage => .error (.notImplemented (.register id))

/-- The value of HVER: the window count in bits 7:0, MAXTL in 15:8, MAXGL in 23:16 (R31, R143). -/
def hverWord (c : Config) : Word :=
  (BitVec.ofNat 8 c.nWindows).setWidth 64 |||
    ((BitVec.ofNat 8 c.maxTL).setWidth 64 <<< 8) ||| ((BitVec.ofNat 8 c.maxGL).setWidth 64 <<< 16)

/-- The compare register of timer k: `CMPR[k]` of 42_timer_compare.md. -/
def cmprOf (k : Timer) : Scalar :=
  match k with
  | .tick => .tickCmpr
  | .stick => .stickCmpr
  | .hstick => .hstickCmpr

/-- `REF(k)`: the counter a compare is measured against, 63 bits (R171, R172). -/
def refCounter (k : Timer) (s : State) : Word :=
  match k with
  | .tick =>
    match s.cfg.tickCmprRef with
    | .live => (s.ic - (s.bank.tick &&& M63)) &&& M63
    | .stored => s.bank.tick &&& M63
  | .stick => s.sref &&& M63
  | .hstick => s.sref &&& M63

/-- `delta` of a compare write of `v`: the exact integer `int(v & M63) - int(REF(k))` (R170). -/
def compareDelta (k : Timer) (v : Word) (s : State) : Int :=
  ((cmpField v).toNat : Int) - ((refCounter k s).toNat : Int)

/-- Whether a compare write of `v` schedules the event: enabled and `delta > 0` (R170). -/
def compareArms (k : Timer) (v : Word) (s : State) : Bool :=
  !disBit v && decide (0 < compareDelta k v s)

/-- Whether a compare write of `v` takes an outstanding schedule away: `cancel` of R170. -/
def compareCancels (k : Timer) (v : Word) (s : State) : Bool :=
  disBit v || compareArms k v s || decide (s.cfg.stalePolicy = .cancel)

end Sys2Proof.Machine
end

