-- ==== Sys2Proof/Machine/Ops.lean ====
section
/-! DEFINITION. The operations the meanings share: answering a command (30_encoding.md R83), ending it in an error
(60_exceptions.md R220, R223), writing a register (40_plain_access.md R102 to R108), the strobes (R84) and the timer
events (42_timer_compare.md R170, R180). -/

namespace Sys2Proof.Machine

/-- End a command with OK and its data (R83). -/
def State.answer (d : RespData) (s : State) : State := { s with resp := .ok d }

/-- End a command with an error: the error is the response, the fault record takes the first error of all and keeps
it, and nothing else changes (R220, R223). The block keeps running (R222). This is the one way a command fails. -/
def State.raise (e : Err) (cmd : CmdWord) (s : State) : State :=
  { s with resp := .error e, fault := s.fault.or (some { err := e, cmd := cmd }) }

/-- The code of an error on STATUS (R221); OK is 0. -/
def Err.code (e : Err) : Nat :=
  match e with
  | .unknownRegister _ => 1
  | .notImplemented _ => 2
  | .invalidTrapLevel _ => 3
  | .illegalCommand _ => 4

/-- The timer index k on a port: 0, 1 or 2 (R85). -/
def timerIndex (k : Timer) : Nat :=
  match k with
  | .tick => 0
  | .stick => 1
  | .hstick => 2

/-- The info an error records, as a number: the identifier or the timer index, the value of TL, the command word
(R221). -/
def Err.info (e : Err) : Nat :=
  match e with
  | .unknownRegister id => id.toNat
  | .notImplemented (.register id) => id.toNat
  | .notImplemented (.fireBody k) => timerIndex k
  | .invalidTrapLevel tl => tl.toNat
  | .illegalCommand cmd => cmd.toNat

/-- `STATUS` of a response: 0 for OK, otherwise the error's code (R83, R221). -/
def Response.status (r : Response) : Nat :=
  match r with
  | .ok _ => 0
  | .error e => Err.code e

/-- `emit` one strobe (R11, R84), after those the command emitted before it. -/
def State.emit (b : Strobe) (s : State) : State := { s with strobes := s.strobes ++ [b] }

/-- End a reading command: OK with the word read, or the error of the read (R83, R220). -/
def finishRead (cmd : CmdWord) (r : Except Err Word) (s : State) : State :=
  match r with
  | .ok v => s.answer (.word v)
  | .error e => s.raise e cmd

/-- The value a plain or effectful store puts into a scalar field: TBA and PSTATE are masked, every other field takes
the value verbatim (R102, R104, R105). -/
def storedValue (c : Config) (f : Scalar) (v : Word) : Word :=
  match f with
  | .tba => v &&& MTBA
  | .pstate => v &&& c.pstateMask
  | _ => v

/-- Store `v` into a scalar field through its mask. -/
def storeScalar (f : Scalar) (v : Word) (s : State) : State :=
  { s with bank := s.bank.set f (storedValue s.cfg f v) }

/-- The value a write of `v` to SOFTINT_SET leaves in SOFTINT (R108). -/
def softintSetValue (c : Config) (old v : Word) : Word :=
  match c.softintPolicy with
  | .store => v
  | .setclr => old ||| v

/-- The value a write of `v` to SOFTINT_CLR leaves in SOFTINT (R108). -/
def softintClrValue (c : Config) (old v : Word) : Word :=
  match c.softintPolicy with
  | .store => v
  | .setclr => old &&& ~~~v

/-- Store `v` through SOFTINT_SET into SOFTINT (R108). -/
def storeSoftintSet (v : Word) (s : State) : State :=
  { s with bank := s.bank.set .softint (softintSetValue s.cfg s.bank.softint v) }

/-- Store `v` through SOFTINT_CLR into SOFTINT (R108). -/
def storeSoftintClr (v : Word) (s : State) : State :=
  { s with bank := s.bank.set .softint (softintClrValue s.cfg s.bank.softint v) }

/-- Write a per-trap-level register: element `t - 1` of its array takes `v` verbatim (R103). -/
def writeTrap (a : TrapReg) (v : Word) (s : State) : Except Err State :=
  match tlCheck s with
  | .ok t => .ok { s with bank := s.bank.setElement a (t - 1) v }
  | .error e => .error e

/-- The plain write of any identifier (R102 to R108, R111). -/
def writePlain (id : RegId) (v : Word) (s : State) : Except Err State :=
  match target id with
  | none => .error (.unknownRegister id)
  | some (.scalar f) => .ok (storeScalar f v s)
  | some (.trap a) => writeTrap a v s
  | some (.scratch n) => .ok { s with bank := s.bank.setSlot n v }
  | some .softintSet => .ok (storeSoftintSet v s)
  | some .softintClr => .ok (storeSoftintClr v s)
  | some .noStorage => .error (.notImplemented (.register id))

/-- End a writing command: OK with no data, or the error of the write with nothing written (R83, R220). -/
def finishWrite (cmd : CmdWord) (r : Except Err State) (s : State) : State :=
  match r with
  | .ok t => t.answer .none
  | .error e => s.raise e cmd

/-- `E[k]` (R32). -/
def Events.get (es : Events) (k : Timer) : TimerEvent :=
  match k with
  | .tick => es.tick
  | .stick => es.stick
  | .hstick => es.hstick

/-- Replace `E[k]`; the other two events are unchanged (R33). -/
def Events.set (es : Events) (k : Timer) (e : TimerEvent) : Events :=
  match k with
  | .tick => { es with tick := e }
  | .stick => { es with stick := e }
  | .hstick => { es with hstick := e }

/-- Replace `E[k]` of the state. -/
def State.setEvent (k : Timer) (e : TimerEvent) (s : State) : State :=
  { s with events := s.events.set k e }

/-- `E[k].alloc <- true` (R170 step 1, R174). -/
def allocate (k : Timer) (s : State) : State :=
  s.setEvent k { s.events.get k with alloc := true }

/-- `E[k].armed <- false; E[k].delay <- 0` (R170, R180, R260). -/
def disarm (k : Timer) (s : State) : State :=
  s.setEvent k { s.events.get k with armed := false, delay := 0 }

/-- Cancel event k if it is scheduled: disarm it and emit `DESCHED(k)`; "idempotent" (R84, R170). -/
def deschedule (k : Timer) (s : State) : State :=
  if (s.events.get k).armed then (disarm k s).emit (.desched k) else s

/-- Schedule event k after `delay` time units: arm it and emit `SCHED(k, delay)` (R170 step 5). -/
def schedule (k : Timer) (delay : Int) (s : State) : State :=
  (s.setEvent k { s.events.get k with armed := true, delay := delay }).emit (.sched k delay)

/-- The whole effect of a compare write of `v` to `CMPR[k]`, in the order of R170: allocate, store, cancel the old
schedule, schedule the new one. `delta` is measured before the store, on the counters the command sampled. -/
def compareWrite (k : Timer) (v : Word) (s : State) : State :=
  let stored := storeScalar (cmprOf k) v (allocate k s)
  let cancelled := if compareCancels k v s then deschedule k stored else stored
  if compareArms k v s then schedule k (compareDelta k v s * s.cfg.timeScale) cancelled else cancelled

/-- FIRE k (R180): an unarmed event is IllegalCommand and nothing changes; an armed one is consumed, and then the
trap request is emitted where trap delivery is supplied, or the command ends in NotImplemented with the event
consumed all the same. -/
def fire (k : Timer) (cmd : CmdWord) (s : State) : State :=
  if (s.events.get k).armed then
    if s.cfg.trapDeliverySupplied then ((disarm k s).emit (.trapReq k)).answer .none
    else (disarm k s).raise (.notImplemented (.fireBody k)) cmd
  else s.raise (.illegalCommand cmd) cmd

/-- ISSCHED k (R182): 1 when Armed, 0 when Unarmed. -/
def isSched (k : Timer) (s : State) : State :=
  s.answer (.word (if (s.events.get k).armed then 1 else 0))

/-- The command an empty `pending` list stands for: none. Nothing changes but that no strobe is driven
(assumption log 3). -/
def State.idle (s : State) : State := { s with strobes := [] }

/-- Take the next presented command onto the port: its word, operands and samples stand there for the whole command
(R72), and no strobe of it has been emitted yet. -/
def State.present (r : Request) (rest : List Request) (s : State) : State :=
  { s with port := r, pending := rest, strobes := [] }

/-- The answer to a command word the decoder rejects: IllegalCommand with the word recorded, whatever the reason
(R87 (c), (d)). -/
def rejectWord (_ : Reject) (s : State) : State := s.raise (.illegalCommand s.port.cmd) s.port.cmd

/-- The request whose command word is the low 16 bits of `w` cut to `nbits`, with operands of zeros. -/
def tableRequest (nbits w : Nat) : Request :=
  { Request.quiet with cmd := BitVec.ofNat 16 (w % 2 ^ nbits) }

end Sys2Proof.Machine
end

