-- ==== Sys2Proof/Machine/EffectfulRead.lean ====
section
/-! DEFINITION. RDE, the effectful reads (41_effectful_access.md R130, R140, R142 to R144; 40_plain_access.md R108). -/

namespace Sys2Proof.Machine

/-- RDE of an identifier without a row of its own delegates to the plain read (R130). -/
def execRde (id : RegId) (s : State) : Result :=
  .next (finishRead (encode (.rde id)) (readPlain id s) s)

/-- RDE TICK: the count at IC with the stored enable bit; nothing is written (R140). -/
def execRdeTick (s : State) : Result :=
  .next (s.answer (.word (tickCount s.ic s.bank.tick)))

/-- RDE PRIVTICK: the same read as TICK (R140). -/
def execRdePrivtick (s : State) : Result :=
  .next (s.answer (.word (tickCount s.ic s.bank.tick)))

/-- RDE HVER: computed from the parameters on every read (R143). -/
def execRdeHver (s : State) : Result :=
  .next (s.answer (.word (hverWord s.cfg)))

/-- RDE FPRS: always NotImplemented (R144). -/
def execRdeFprs (s : State) : Result :=
  .next (s.raise (.notImplemented (.register 4)) (encode .rdeFprs))

/-- RDE FSR: always NotImplemented (R144). -/
def execRdeFsr (s : State) : Result :=
  .next (s.raise (.notImplemented (.register 35)) (encode .rdeFsr))

/-- RDE PCR: always NotImplemented (R144). -/
def execRdePcr (s : State) : Result :=
  .next (s.raise (.notImplemented (.register 5)) (encode .rdePcr))

/-- RDE PIC: always NotImplemented (R144). -/
def execRdePic (s : State) : Result :=
  .next (s.raise (.notImplemented (.register 6)) (encode .rdePic))

/-- RDE HINTP: always NotImplemented (R144). -/
def execRdeHintp (s : State) : Result :=
  .next (s.raise (.notImplemented (.register 31)) (encode .rdeHintp))

/-- RDE SOFTINT_SET: cannot be read, NotImplemented (R108). -/
def execRdeSoftintSet (s : State) : Result :=
  .next (s.raise (.notImplemented (.register 7)) (encode .rdeSoftintSet))

/-- RDE SOFTINT_CLR: cannot be read, NotImplemented (R108). -/
def execRdeSoftintClr (s : State) : Result :=
  .next (s.raise (.notImplemented (.register 8)) (encode .rdeSoftintClr))

/-- RDE STICK: the stored word; STICK does not count (R142). -/
def execRdeStick (s : State) : Result :=
  .next (s.answer (.word s.bank.stick))

end Sys2Proof.Machine
end

