-- ==== Sys2Proof/Machine/EffectfulWrite.lean ====
section
/-! DEFINITION. WRE, the effectful writes (41_effectful_access.md R131, R141, R142, R146, R150, R151;
42_timer_compare.md R170; 40_plain_access.md R107). The store precedes the strobe (20_memory.md R71). -/

namespace Sys2Proof.Machine

/-- WRE of an identifier without a row of its own falls through to the plain write (R131). -/
def execWre (id : RegId) (s : State) : Result :=
  .next (finishWrite (encode (.wre id)) (writePlain id s.wdata s) s)

/-- WRE TICK: the counter is re-based on IC so that later reads give WDATA plus the elapsed count (R141). -/
def execWreTick (s : State) : Result :=
  .next ((storeScalar .tick (tickRebase s.ic s.wdata) s).answer .none)

/-- WRE PRIVTICK: the counter is re-based on IC so that later reads give WDATA plus the elapsed count (R141). -/
def execWrePrivtick (s : State) : Result :=
  .next ((storeScalar .tick (tickRebase s.ic s.wdata) s).answer .none)

/-- WRE TICK_CMPR: the compare write of event tick (R170). -/
def execWreTickCmpr (s : State) : Result :=
  .next ((compareWrite .tick s.wdata s).answer .none)

/-- WRE STICK_CMPR: the compare write of event stick (R170). -/
def execWreStickCmpr (s : State) : Result :=
  .next ((compareWrite .stick s.wdata s).answer .none)

/-- WRE HSTICK_CMPR: the compare write of event hstick (R170). -/
def execWreHstickCmpr (s : State) : Result :=
  .next ((compareWrite .hstick s.wdata s).answer .none)

/-- WRE PSTATE: the masked store, no further side effect (R146). -/
def execWrePstate (s : State) : Result :=
  .next ((storeScalar .pstate s.wdata s).answer .none)

/-- WRE TL: the verbatim store, no range check (R146). -/
def execWreTl (s : State) : Result :=
  .next ((storeScalar .tl s.wdata s).answer .none)

/-- WRE CWP: store, then notify the register-window collaborator with the whole value (R150). -/
def execWreCwp (s : State) : Result :=
  .next (((storeScalar .cwp s.wdata s).emit (.ctxChange .currentWindow s.wdata)).answer .none)

/-- WRE GL: store, then notify the register-window collaborator with the whole value (R150). -/
def execWreGl (s : State) : Result :=
  .next (((storeScalar .gl s.wdata s).emit (.ctxChange .globalSet s.wdata)).answer .none)

/-- WRE SOFTINT_SET: the plain store, then the software-interrupt strobe (R151). -/
def execWreSoftintSet (s : State) : Result :=
  .next (((storeSoftintSet s.wdata s).emit (.softintWr 7 s.wdata)).answer .none)

/-- WRE SOFTINT_CLR: the plain store, then the software-interrupt strobe (R151). -/
def execWreSoftintClr (s : State) : Result :=
  .next (((storeSoftintClr s.wdata s).emit (.softintWr 8 s.wdata)).answer .none)

/-- WRE SOFTINT: the plain store, then the software-interrupt strobe (R151). -/
def execWreSoftint (s : State) : Result :=
  .next (((storeScalar .softint s.wdata s).emit (.softintWr 9 s.wdata)).answer .none)

/-- WRE PCR: falls through to WRP, always NotImplemented (R107, R131). -/
def execWrePcr (s : State) : Result :=
  .next (s.raise (.notImplemented (.register 5)) (encode .wrePcr))

/-- WRE PIC: falls through to WRP, always NotImplemented (R107, R131). -/
def execWrePic (s : State) : Result :=
  .next (s.raise (.notImplemented (.register 6)) (encode .wrePic))

/-- WRE HINTP: falls through to WRP, always NotImplemented (R107, R131). -/
def execWreHintp (s : State) : Result :=
  .next (s.raise (.notImplemented (.register 31)) (encode .wreHintp))

/-- WRE HVER: falls through to WRP, always NotImplemented (R107, R131). -/
def execWreHver (s : State) : Result :=
  .next (s.raise (.notImplemented (.register 32)) (encode .wreHver))

/-- WRE STICK: the verbatim store; STICK is not re-based (R142). -/
def execWreStick (s : State) : Result :=
  .next ((storeScalar .stick s.wdata s).answer .none)

end Sys2Proof.Machine
end

