-- ==== Sys2Proof/Machine/Naming.lean ====
section
/-! DEFINITION. NAME (40_plain_access.md R110, R111). -/

namespace Sys2Proof.Machine

/-- NAME: the name of the identifier, the unimplemented ones too, or UnknownRegister for 56 to 255 (R110, R111). -/
def execName (id : RegId) (s : State) : Result :=
  .next (match nameOf id with
    | some n => s.answer (.name n)
    | none => s.raise (.unknownRegister id) (encode (.name id)))

end Sys2Proof.Machine
end

