-- ==== Sys2Proof/Machine/Persistence.lean ====
section
/-! DEFINITION. SAVE and RESTORE (43_persistence.md R200 to R204) and the byte form of an image (R206). -/

namespace Sys2Proof.Machine

/-- SAVE: the image of the bank, every field raw; nothing changes (R202). -/
def execSave (s : State) : Result :=
  .next (s.answer (.image s.bank.image))

/-- RESTORE: an image of `SAVE_LEN` words is written raw into every field as one unit, with no mask and no strobe,
and the timer events stay as they are (R203, R204); one of another length is IllegalCommand and writes nothing. -/
def execRestore (s : State) : Result :=
  .next (if s.img.length = saveLen s.cfg then
      { s with bank := Bank.ofImage s.cfg.maxTL s.img }.answer .none
    else s.raise (.illegalCommand (encode .restore)) (encode .restore))

/-- The byte stream that carries an image: 8 bytes a word, words in image order (R206). -/
def imageBytes (img : List Word) : List Byte := img.flatMap wordBytes

/-- The image a byte stream carries, if its length is a multiple of 8 (R206). -/
def imageOfBytes : List Byte → Option (List Word)
  | [] => some []
  | b7 :: b6 :: b5 :: b4 :: b3 :: b2 :: b1 :: b0 :: rest =>
    match imageOfBytes rest with
    | some ws => some (bytesWord b7 b6 b5 b4 b3 b2 b1 b0 :: ws)
    | none => none
  | _ => none

end Sys2Proof.Machine
end

