-- ==== Sys2Proof/Machine/PlainRead.lean ====
section
/-! DEFINITION. RDP, the plain reads (40_plain_access.md R100, R101, R106 to R108). "RDP must never mutate state" (R65):
only the response, and on an error the fault record, changes. -/

namespace Sys2Proof.Machine

/-- RDP of an identifier without a row of its own: the stored field, or UnknownRegister for 56 to 255 (R100, R111). -/
def execRdp (id : RegId) (s : State) : Result :=
  .next (finishRead (encode (.rdp id)) (readPlain id s) s)

/-- RDP TPC: the element of the current trap level, or InvalidTrapLevel (R101). -/
def execRdpTpc (s : State) : Result :=
  .next (finishRead (encode .rdpTpc) (readTrap .tpc s) s)

/-- RDP TNPC: the element of the current trap level, or InvalidTrapLevel (R101). -/
def execRdpTnpc (s : State) : Result :=
  .next (finishRead (encode .rdpTnpc) (readTrap .tnpc s) s)

/-- RDP TSTATE: the element of the current trap level, or InvalidTrapLevel (R101). -/
def execRdpTstate (s : State) : Result :=
  .next (finishRead (encode .rdpTstate) (readTrap .tstate s) s)

/-- RDP TT: the element of the current trap level, or InvalidTrapLevel (R101). -/
def execRdpTt (s : State) : Result :=
  .next (finishRead (encode .rdpTt) (readTrap .tt s) s)

/-- RDP HTSTATE: the element of the current trap level, or InvalidTrapLevel (R101). -/
def execRdpHtstate (s : State) : Result :=
  .next (finishRead (encode .rdpHtstate) (readTrap .htstate s) s)

/-- RDP TICK: the raw re-base word, not the count (R106). -/
def execRdpTick (s : State) : Result :=
  .next (s.answer (.word s.bank.tick))

/-- RDP PRIVTICK: the same field as TICK (R106). -/
def execRdpPrivtick (s : State) : Result :=
  .next (s.answer (.word s.bank.tick))

/-- RDP PCR: always NotImplemented (R107). -/
def execRdpPcr (s : State) : Result :=
  .next (s.raise (.notImplemented (.register 5)) (encode .rdpPcr))

/-- RDP PIC: always NotImplemented (R107). -/
def execRdpPic (s : State) : Result :=
  .next (s.raise (.notImplemented (.register 6)) (encode .rdpPic))

/-- RDP HINTP: always NotImplemented (R107). -/
def execRdpHintp (s : State) : Result :=
  .next (s.raise (.notImplemented (.register 31)) (encode .rdpHintp))

/-- RDP HVER: always NotImplemented (R107). -/
def execRdpHver (s : State) : Result :=
  .next (s.raise (.notImplemented (.register 32)) (encode .rdpHver))

/-- RDP SOFTINT_SET: cannot be read, NotImplemented (R108). -/
def execRdpSoftintSet (s : State) : Result :=
  .next (s.raise (.notImplemented (.register 7)) (encode .rdpSoftintSet))

/-- RDP SOFTINT_CLR: cannot be read, NotImplemented (R108). -/
def execRdpSoftintClr (s : State) : Result :=
  .next (s.raise (.notImplemented (.register 8)) (encode .rdpSoftintClr))

end Sys2Proof.Machine
end

