-- ==== Sys2Proof/Machine/PlainWrite.lean ====
section
/-! DEFINITION. WRP, the plain writes (40_plain_access.md R102 to R108). They store and do nothing else: no strobe, no
timer event, no IC, no SREF. -/

namespace Sys2Proof.Machine

/-- WRP of an identifier without a row of its own: WDATA stored verbatim with no side effect, or UnknownRegister
for 56 to 255 (R102, R111). A compare register is stored and no event changes (R272). -/
def execWrp (id : RegId) (s : State) : Result :=
  .next (finishWrite (encode (.wrp id)) (writePlain id s.wdata s) s)

/-- WRP TPC: the element of the current trap level takes WDATA, or InvalidTrapLevel (R103). -/
def execWrpTpc (s : State) : Result :=
  .next (finishWrite (encode .wrpTpc) (writeTrap .tpc s.wdata s) s)

/-- WRP TNPC: the element of the current trap level takes WDATA, or InvalidTrapLevel (R103). -/
def execWrpTnpc (s : State) : Result :=
  .next (finishWrite (encode .wrpTnpc) (writeTrap .tnpc s.wdata s) s)

/-- WRP TSTATE: the element of the current trap level takes WDATA, or InvalidTrapLevel (R103). -/
def execWrpTstate (s : State) : Result :=
  .next (finishWrite (encode .wrpTstate) (writeTrap .tstate s.wdata s) s)

/-- WRP TT: the element of the current trap level takes WDATA, or InvalidTrapLevel (R103). -/
def execWrpTt (s : State) : Result :=
  .next (finishWrite (encode .wrpTt) (writeTrap .tt s.wdata s) s)

/-- WRP HTSTATE: the element of the current trap level takes WDATA, or InvalidTrapLevel (R103). -/
def execWrpHtstate (s : State) : Result :=
  .next (finishWrite (encode .wrpHtstate) (writeTrap .htstate s.wdata s) s)

/-- WRP TBA: the low 15 bits of WDATA are dropped (R104). -/
def execWrpTba (s : State) : Result :=
  .next ((storeScalar .tba s.wdata s).answer .none)

/-- WRP PSTATE: WDATA masked with PSTATE_MASK (R105). -/
def execWrpPstate (s : State) : Result :=
  .next ((storeScalar .pstate s.wdata s).answer .none)

/-- WRP TICK: the raw word is stored, no re-base, IC not read (R106). -/
def execWrpTick (s : State) : Result :=
  .next ((storeScalar .tick s.wdata s).answer .none)

/-- WRP PRIVTICK: the same store as WRP TICK (R106). -/
def execWrpPrivtick (s : State) : Result :=
  .next ((storeScalar .tick s.wdata s).answer .none)

/-- WRP PCR: always NotImplemented (R107). -/
def execWrpPcr (s : State) : Result :=
  .next (s.raise (.notImplemented (.register 5)) (encode .wrpPcr))

/-- WRP PIC: always NotImplemented (R107). -/
def execWrpPic (s : State) : Result :=
  .next (s.raise (.notImplemented (.register 6)) (encode .wrpPic))

/-- WRP HINTP: always NotImplemented (R107). -/
def execWrpHintp (s : State) : Result :=
  .next (s.raise (.notImplemented (.register 31)) (encode .wrpHintp))

/-- WRP HVER: always NotImplemented (R107). -/
def execWrpHver (s : State) : Result :=
  .next (s.raise (.notImplemented (.register 32)) (encode .wrpHver))

/-- WRP SOFTINT_SET: WDATA goes into SOFTINT by SOFTINT_SETCLR_POLICY, without a strobe (R108). -/
def execWrpSoftintSet (s : State) : Result :=
  .next ((storeSoftintSet s.wdata s).answer .none)

/-- WRP SOFTINT_CLR: WDATA goes into SOFTINT by SOFTINT_SETCLR_POLICY, without a strobe (R108). -/
def execWrpSoftintClr (s : State) : Result :=
  .next ((storeSoftintClr s.wdata s).answer .none)

end Sys2Proof.Machine
end

