-- ==== Sys2Proof/Machine/Reserved.lean ====
section
/-! DEFINITION. The reserved command words (30_encoding.md R87 (a), (b)): each answers IllegalCommand and changes nothing. -/

namespace Sys2Proof.Machine

/-- OP 0xA: IllegalCommand (R87 (a)). -/
def execReservedOpa (id : RegId) (s : State) : Result :=
  .next (s.raise (.illegalCommand (encode (.reservedOpa id))) (encode (.reservedOpa id)))

/-- OP 0xB: IllegalCommand (R87 (a)). -/
def execReservedOpb (id : RegId) (s : State) : Result :=
  .next (s.raise (.illegalCommand (encode (.reservedOpb id))) (encode (.reservedOpb id)))

/-- OP 0xC: IllegalCommand (R87 (a)). -/
def execReservedOpc (id : RegId) (s : State) : Result :=
  .next (s.raise (.illegalCommand (encode (.reservedOpc id))) (encode (.reservedOpc id)))

/-- OP 0xD: IllegalCommand (R87 (a)). -/
def execReservedOpd (id : RegId) (s : State) : Result :=
  .next (s.raise (.illegalCommand (encode (.reservedOpd id))) (encode (.reservedOpd id)))

/-- OP 0xE: IllegalCommand (R87 (a)). -/
def execReservedOpe (id : RegId) (s : State) : Result :=
  .next (s.raise (.illegalCommand (encode (.reservedOpe id))) (encode (.reservedOpe id)))

/-- OP 0xF: IllegalCommand (R87 (a)). -/
def execReservedOpf (id : RegId) (s : State) : Result :=
  .next (s.raise (.illegalCommand (encode (.reservedOpf id))) (encode (.reservedOpf id)))

/-- RSVD not 0: IllegalCommand, before every other check (R87 (b), R229). -/
def execReservedRsvd (op rsvd : BitVec 4) (id : RegId) (s : State) : Result :=
  .next (s.raise (.illegalCommand (encode (.reservedRsvd op rsvd id))) (encode (.reservedRsvd op rsvd id)))

end Sys2Proof.Machine
end

