-- ==== Sys2Proof/Machine/Reset.lean ====
section
/-! DEFINITION. RESET (70_reset_and_hazards.md R260) and the block before it (R264). -/

namespace Sys2Proof.Machine

/-- RESET: every stored field takes its reset value, and every armed event is descheduled, timer 0 first. `alloc`, the
fault record and the configuration stay; no CTX_CHANGE is emitted although CWP and GL become 0 (R260). -/
def execReset (s : State) : Result :=
  let cleared : State := { s with bank := Bank.reset s.cfg }
  .next ((deschedule .hstick (deschedule .stick (deschedule .tick cleared))).answer .none)

/-- A block that has seen no RESET: its stored fields hold any value (`b`), no event was ever allocated, and no command
was performed (R264). -/
def State.powerOn (c : Config) (b : Bank) : State :=
  { State.resetWith c with bank := b }

end Sys2Proof.Machine
end

