-- ==== Sys2Proof/Machine/Timers.lean ====
section
/-! DEFINITION. FIRE and ISSCHED (42_timer_compare.md R180, R182). -/

namespace Sys2Proof.Machine

/-- FIRE tick: the scheduler calls back for the event (R180). -/
def execFireTick (s : State) : Result :=
  .next (fire .tick (encode .fireTick) s)

/-- FIRE stick: the scheduler calls back for the event (R180). -/
def execFireStick (s : State) : Result :=
  .next (fire .stick (encode .fireStick) s)

/-- FIRE hstick: the scheduler calls back for the event (R180). -/
def execFireHstick (s : State) : Result :=
  .next (fire .hstick (encode .fireHstick) s)

/-- ISSCHED tick: whether the event is scheduled (R182). -/
def execIsschedTick (s : State) : Result :=
  .next (isSched .tick s)

/-- ISSCHED stick: whether the event is scheduled (R182). -/
def execIsschedStick (s : State) : Result :=
  .next (isSched .stick s)

/-- ISSCHED hstick: whether the event is scheduled (R182). -/
def execIsschedHstick (s : State) : Result :=
  .next (isSched .hstick s)

end Sys2Proof.Machine
end

