-- ==== Sys2Proof/Machine/Dispatch.lean ====
section
/-! DEFINITION. Which meaning each command has: one arm per constructor of `Instr`, each one call. -/

namespace Sys2Proof.Machine

def exec (i : Instr) (s : State) : Host.Outcome State Fault Refusal :=
  match i with
  | .rdp id => Sys2Proof.Machine.execRdp id s
  | .rdpTpc => Sys2Proof.Machine.execRdpTpc s
  | .rdpTnpc => Sys2Proof.Machine.execRdpTnpc s
  | .rdpTstate => Sys2Proof.Machine.execRdpTstate s
  | .rdpTt => Sys2Proof.Machine.execRdpTt s
  | .rdpHtstate => Sys2Proof.Machine.execRdpHtstate s
  | .rdpTick => Sys2Proof.Machine.execRdpTick s
  | .rdpPrivtick => Sys2Proof.Machine.execRdpPrivtick s
  | .rdpPcr => Sys2Proof.Machine.execRdpPcr s
  | .rdpPic => Sys2Proof.Machine.execRdpPic s
  | .rdpHintp => Sys2Proof.Machine.execRdpHintp s
  | .rdpHver => Sys2Proof.Machine.execRdpHver s
  | .rdpSoftintSet => Sys2Proof.Machine.execRdpSoftintSet s
  | .rdpSoftintClr => Sys2Proof.Machine.execRdpSoftintClr s
  | .wrp id => Sys2Proof.Machine.execWrp id s
  | .wrpTpc => Sys2Proof.Machine.execWrpTpc s
  | .wrpTnpc => Sys2Proof.Machine.execWrpTnpc s
  | .wrpTstate => Sys2Proof.Machine.execWrpTstate s
  | .wrpTt => Sys2Proof.Machine.execWrpTt s
  | .wrpHtstate => Sys2Proof.Machine.execWrpHtstate s
  | .wrpTba => Sys2Proof.Machine.execWrpTba s
  | .wrpPstate => Sys2Proof.Machine.execWrpPstate s
  | .wrpTick => Sys2Proof.Machine.execWrpTick s
  | .wrpPrivtick => Sys2Proof.Machine.execWrpPrivtick s
  | .wrpPcr => Sys2Proof.Machine.execWrpPcr s
  | .wrpPic => Sys2Proof.Machine.execWrpPic s
  | .wrpHintp => Sys2Proof.Machine.execWrpHintp s
  | .wrpHver => Sys2Proof.Machine.execWrpHver s
  | .wrpSoftintSet => Sys2Proof.Machine.execWrpSoftintSet s
  | .wrpSoftintClr => Sys2Proof.Machine.execWrpSoftintClr s
  | .rde id => Sys2Proof.Machine.execRde id s
  | .rdeTick => Sys2Proof.Machine.execRdeTick s
  | .rdePrivtick => Sys2Proof.Machine.execRdePrivtick s
  | .rdeHver => Sys2Proof.Machine.execRdeHver s
  | .rdeFprs => Sys2Proof.Machine.execRdeFprs s
  | .rdeFsr => Sys2Proof.Machine.execRdeFsr s
  | .rdePcr => Sys2Proof.Machine.execRdePcr s
  | .rdePic => Sys2Proof.Machine.execRdePic s
  | .rdeHintp => Sys2Proof.Machine.execRdeHintp s
  | .rdeSoftintSet => Sys2Proof.Machine.execRdeSoftintSet s
  | .rdeSoftintClr => Sys2Proof.Machine.execRdeSoftintClr s
  | .rdeStick => Sys2Proof.Machine.execRdeStick s
  | .wre id => Sys2Proof.Machine.execWre id s
  | .wreTick => Sys2Proof.Machine.execWreTick s
  | .wrePrivtick => Sys2Proof.Machine.execWrePrivtick s
  | .wreTickCmpr => Sys2Proof.Machine.execWreTickCmpr s
  | .wreStickCmpr => Sys2Proof.Machine.execWreStickCmpr s
  | .wreHstickCmpr => Sys2Proof.Machine.execWreHstickCmpr s
  | .wrePstate => Sys2Proof.Machine.execWrePstate s
  | .wreTl => Sys2Proof.Machine.execWreTl s
  | .wreCwp => Sys2Proof.Machine.execWreCwp s
  | .wreGl => Sys2Proof.Machine.execWreGl s
  | .wreSoftintSet => Sys2Proof.Machine.execWreSoftintSet s
  | .wreSoftintClr => Sys2Proof.Machine.execWreSoftintClr s
  | .wreSoftint => Sys2Proof.Machine.execWreSoftint s
  | .wrePcr => Sys2Proof.Machine.execWrePcr s
  | .wrePic => Sys2Proof.Machine.execWrePic s
  | .wreHintp => Sys2Proof.Machine.execWreHintp s
  | .wreHver => Sys2Proof.Machine.execWreHver s
  | .wreStick => Sys2Proof.Machine.execWreStick s
  | .name id => Sys2Proof.Machine.execName id s
  | .reset => Sys2Proof.Machine.execReset s
  | .save => Sys2Proof.Machine.execSave s
  | .restore => Sys2Proof.Machine.execRestore s
  | .fireTick => Sys2Proof.Machine.execFireTick s
  | .fireStick => Sys2Proof.Machine.execFireStick s
  | .fireHstick => Sys2Proof.Machine.execFireHstick s
  | .isschedTick => Sys2Proof.Machine.execIsschedTick s
  | .isschedStick => Sys2Proof.Machine.execIsschedStick s
  | .isschedHstick => Sys2Proof.Machine.execIsschedHstick s
  | .reservedOpa id => Sys2Proof.Machine.execReservedOpa id s
  | .reservedOpb id => Sys2Proof.Machine.execReservedOpb id s
  | .reservedOpc id => Sys2Proof.Machine.execReservedOpc id s
  | .reservedOpd id => Sys2Proof.Machine.execReservedOpd id s
  | .reservedOpe id => Sys2Proof.Machine.execReservedOpe id s
  | .reservedOpf id => Sys2Proof.Machine.execReservedOpf id s
  | .reservedRsvd op rsvd id => Sys2Proof.Machine.execReservedRsvd op rsvd id s

end Sys2Proof.Machine
end

