-- ==== Sys2Proof/Machine/Step.lean ====
section
/-! DEFINITION. One step of the block: take the next presented command, decode its word, perform it whole (30_encoding.md
R80, 20_memory.md R64, R68). -/

namespace Sys2Proof.Machine

/-- Perform the command that stands on the port: the meaning of the decoded command, or IllegalCommand for a word the
decoder rejects (R87). -/
def State.perform (s : State) : Host.Outcome State Fault Refusal :=
  match decode s.port.cmd with
  | .ok i => exec i s
  | .error e => .next (rejectWord e s)

/-- One step. With no command presented the block is idle (assumption log 3). -/
def step (s : State) : Host.Outcome State Fault Refusal :=
  match s.pending with
  | [] => .next s.idle
  | r :: rest => (s.present r rest).perform

/-- Present the command whose word is the low bits of `w`, with operands of zeros, as the next one: the step after
this performs exactly it (assumption log 3). -/
def State.withFetchWord (s : State) (nbits w : Nat) : State :=
  { s with pending := tableRequest nbits w :: s.pending }

end Sys2Proof.Machine
end

