-- ==== Sys2Proof/Machine/Agents.lean ====
section
/-! DEFINITION. The agents around the block (00_scope.md R7, 70_reset_and_hazards.md R277): what each presents on the
input ports, which commands it may issue and when, what it owes, and what the block gives back to it. The block cannot
tell its agents apart (R84 gives it no such port), so `step` reads none of this: a claim about the agents is a claim
about legal turns and legal runs (assumption log 4). -/

namespace Sys2Proof.Machine

/-- The five agents of R7 and the register-window collaborator that R277 lists beside them. -/
inductive Agent where
  /-- the owning execution context, the strand -/
  | executionContext
  /-- the event scheduler -/
  | eventScheduler
  /-- the system collaborator, which supplies the system-tick reference counter -/
  | systemCollaborator
  /-- the persistence framework -/
  | persistenceFramework
  /-- the interrupt collaborator, which only receives -/
  | interruptCollaborator
  /-- the register-window collaborator, which only receives -/
  | registerWindow
  deriving DecidableEq, Repr

/-- The input ports of the block: the command port with its operands (R81, R82) and the side ports (R84). -/
inductive InputPort where
  | command
  | wdata
  | img
  | ic
  | sref
  deriving DecidableEq, Repr

/-- The timer a command fires: FIRE k fires k, and no other command fires (R85). -/
def firedTimer (i : Instr) : Option Timer :=
  match i with
  | .fireTick => some .tick
  | .fireStick => some .stick
  | .fireHstick => some .hstick
  | _ => none

/-- Whether a term stands for words that spell no command of R85 (R87 (a), (b)). -/
def isReserved (i : Instr) : Bool :=
  match i with
  | .reservedOpa _ => true
  | .reservedOpb _ => true
  | .reservedOpc _ => true
  | .reservedOpd _ => true
  | .reservedOpe _ => true
  | .reservedOpf _ => true
  | .reservedRsvd _ _ _ => true
  | _ => false

/-- Which commands an agent may issue (R80, R277): the execution context every command of R85 but FIRE, the scheduler
FIRE, the persistence framework SAVE and RESTORE, and the three that only supply or receive none. A word that spells
no command is no agent's move. -/
def Agent.mayIssue (a : Agent) (i : Instr) : Bool :=
  match a with
  | .executionContext => !isReserved i && (firedTimer i).isNone
  | .eventScheduler => (firedTimer i).isSome
  | .persistenceFramework => i == .save || i == .restore
  | .systemCollaborator => false
  | .interruptCollaborator => false
  | .registerWindow => false

/-- Whether an agent may issue a command now: the scheduler's liberty is FIRE k "at any step while `E[k].armed`" (R183,
R277); the others may issue theirs between any two steps. -/
def Agent.liberty (a : Agent) (i : Instr) (s : State) : Bool :=
  a.mayIssue i &&
    match firedTimer i with
    | some k => (s.events.get k).armed
    | none => true

/-- Whether the issuer keeps its duty: the persistence framework gives RESTORE an image of `SAVE_LEN` words; no other
row of R277 has a duty to the block. -/
def Agent.keepsDuty (a : Agent) (i : Instr) (img : List Word) (c : Config) : Bool :=
  match a, i with
  | .persistenceFramework, .restore => decide (img.length = saveLen c)
  | _, _ => true

/-- Whether an agent supplies an input port: a command and its operands come from an agent that may issue it, `IC` from
the execution context and `SREF` from the system collaborator, at each command (R7, R82, R84, R277). -/
def Agent.supplies (a : Agent) (p : InputPort) : Bool :=
  match p with
  | .command => a == .executionContext || a == .eventScheduler || a == .persistenceFramework
  | .wdata => a == .executionContext
  | .img => a == .executionContext || a == .persistenceFramework
  | .ic => a == .executionContext
  | .sref => a == .systemCollaborator

/-- Whether an agent receives an output strobe (R7, R84, R231, R277). `TRAP_REQ` goes to the execution context, which
owns trap delivery, to the interrupt collaborator, and back to the scheduler whose FIRE it answers. -/
def Agent.receives (a : Agent) (b : Strobe) : Bool :=
  match b with
  | .ctxChange _ _ => a == .executionContext || a == .registerWindow
  | .softintWr _ _ => a == .interruptCollaborator
  | .sched _ _ => a == .eventScheduler
  | .desched _ => a == .eventScheduler
  | .trapReq _ => a == .executionContext || a == .interruptCollaborator || a == .eventScheduler

/-- One turn of the agents, which is one step of the block: `issuer` presents the command word and its operands, the
execution context presents `ic` and the system collaborator `sref`. The two samples are free in every turn (R277). -/
structure Turn where
  issuer : Agent
  cmd : CmdWord
  wdata : Word
  img : List Word
  ic : Word
  sref : Word
  deriving DecidableEq, Repr

/-- What the block sees of a turn: not the issuer. -/
def Turn.request (t : Turn) : Request :=
  { cmd := t.cmd, wdata := t.wdata, img := t.img, ic := t.ic, sref := t.sref }

/-- The timer a turn fires, where it is a FIRE. -/
def Turn.fires (t : Turn) : Option Timer :=
  match decode t.cmd with
  | .ok i => firedTimer i
  | .error _ => none

/-- Whether the response of a turn's command goes to an agent: it goes to the issuer alone (R83, R277). -/
def Agent.getsResponse (a : Agent) (t : Turn) : Bool := a == t.issuer

/-- Whether a turn is a move of the table of R277 in state `s`: its word is a command its issuer may issue now, and the
issuer keeps its duty. "A move not in this table does not exist." -/
def Turn.legal (t : Turn) (s : State) : Bool :=
  match decode t.cmd with
  | .ok i => t.issuer.liberty i s && t.issuer.keepsDuty i t.img s.cfg
  | .error _ => false

/-- The block with these turns presented, one step each, in this order. -/
def State.offer (ts : List Turn) (s : State) : State := { s with pending := ts.map Turn.request }

/-- Whether a list of turns is a run of the agents from `s`: each is legal in the state it is taken in. The commands of
the execution context and the persistence framework stand in the list in the order they are issued, with a FIRE of any
armed event between any two of them (R7, R69, R279). -/
def legalRun : List Turn → State → Bool
  | [], _ => true
  | t :: ts, s =>
    t.legal s &&
      match step (s.offer (t :: ts)) with
      | .next u => legalRun ts u
      | .fault _ => false
      | .refused _ => false

end Sys2Proof.Machine
end

