-- ==== Sys2Proof/Machine/Asm.lean ====
section
/-! DEFINITION. The text syntax of test programs (30_encoding.md R90) and its pseudo-commands (R91): a list of lines
is translated to the commands it presents to the block. No command of the block reads text; this is the spec's
notation for what the outside presents (assumption log 16). -/

namespace Sys2Proof.Machine

/-- Why a line is no line of the syntax. -/
inductive AsmError where
  /-- its first word is neither a command of R90, a pseudo-command of R91 nor a directive -/
  | unknownCommand
  /-- its operands are not those the command takes -/
  | badOperands
  deriving DecidableEq, Repr

/-- The port values and named images the lines so far have set (R90): `@ic N` and `@sref N` hold "from that point on". -/
structure AsmState where
  ic : Word
  sref : Word
  images : List (String × List Word)
  deriving DecidableEq, Repr

/-- Words of a line are separated by spaces, tabs and commas. `cur` is the word being read, last character first. -/
def asmWords (cur : List Char) : List Char → List String
  | [] => if cur.isEmpty then [] else [String.ofList cur.reverse]
  | c :: cs =>
    if c = ' ' || c = '\t' || c = ',' then
      if cur.isEmpty then asmWords [] cs else String.ofList cur.reverse :: asmWords [] cs
    else asmWords (c :: cur) cs

/-- The value of a digit in base 10 or 16. -/
def digitValue (base : Nat) (c : Char) : Option Nat :=
  let v :=
    if '0' ≤ c && c ≤ '9' then c.toNat - 48
    else if 'a' ≤ c && c ≤ 'f' then c.toNat - 87
    else if 'A' ≤ c && c ≤ 'F' then c.toNat - 55
    else base
  if v < base then some v else none

/-- The number a digit string writes; `_` is a digit separator (R9). -/
def digitsValue (base acc : Nat) : List Char → Option Nat
  | [] => some acc
  | c :: cs =>
    if c = '_' then digitsValue base acc cs
    else
      match digitValue base c with
      | some d => digitsValue base (acc * base + d) cs
      | none => none

/-- A number in decimal or `0x` hex (R90). -/
def asmNumber (w : String) : Option Nat :=
  match w.toList with
  | [] => none
  | ['0', 'x'] => none
  | '0' :: 'x' :: ds => digitsValue 16 0 ds
  | ds => digitsValue 10 0 ds

/-- VALUE: a 64-bit number (R90). -/
def asmValue (w : String) : Option Word :=
  match asmNumber w with
  | some n => if n < 2 ^ 64 then some (BitVec.ofNat 64 n) else none
  | none => none

/-- The identifier of a register name of R30. -/
def idOfName (w : String) : Option RegId :=
  ((List.range 56).map (BitVec.ofNat 8)).find? fun id => nameOf id = some w

/-- NAME: a register name of R30 or a decimal identifier `#n` (R90). -/
def asmId (w : String) : Option RegId :=
  match w.toList with
  | '#' :: d :: ds =>
    match digitsValue 10 0 (d :: ds) with
    | some n => if n < 256 then some (BitVec.ofNat 8 n) else none
    | none => none
  | _ => idOfName w

/-- K: 0, 1 or 2 or a timer name (R90). -/
def asmTimer (w : String) : Option RegId :=
  match w with
  | "0" => some 0
  | "tick" => some 0
  | "1" => some 1
  | "stick" => some 1
  | "2" => some 2
  | "hstick" => some 2
  | _ => none

/-- The identifier of one of the three compare registers, the NAME of a compare pseudo-command (R91). -/
def asmCompare (w : String) : Option RegId :=
  match w with
  | "TICK_CMPR" => some 10
  | "STICK_CMPR" => some 12
  | "HSTICK_CMPR" => some 34
  | _ => none

/-- The command `op` with identifier `id` and data `v`, presented with the port values in force. -/
def asmRequest (a : AsmState) (op : BitVec 4) (id : RegId) (v : Word) (img : List Word) : Request :=
  { cmd := cmdWord op 0 id, wdata := v, img := img, ic := a.ic, sref := a.sref }

/-- What a line does: it sets a port value, presents one command, or neither. -/
abbrev AsmResult := Except AsmError (AsmState × Option Request)

/-- A command without operands. -/
def asmPlain (a : AsmState) (op : BitVec 4) (args : List String) : AsmResult :=
  match args with
  | [] => .ok (a, some (asmRequest a op 0 0 []))
  | _ => .error .badOperands

/-- A command whose one operand is an identifier field, read by `id`. -/
def asmOne (a : AsmState) (op : BitVec 4) (id : String → Option RegId) (args : List String) : AsmResult :=
  match args with
  | [n] =>
    match id n with
    | some i => .ok (a, some (asmRequest a op i 0 []))
    | none => .error .badOperands
  | _ => .error .badOperands

/-- A write of `f VALUE` to the identifier `id` reads. -/
def asmWrite (a : AsmState) (op : BitVec 4) (id : String → Option RegId) (f : Word → Word)
    (args : List String) : AsmResult :=
  match args with
  | [n, x] =>
    match id n, asmValue x with
    | some i, some v => .ok (a, some (asmRequest a op i (f v) []))
    | _, _ => .error .badOperands
  | _ => .error .badOperands

/-- A write of VALUE to a fixed identifier. -/
def asmFixed (a : AsmState) (op : BitVec 4) (id : RegId) (args : List String) : AsmResult :=
  match args with
  | [x] =>
    match asmValue x with
    | some v => .ok (a, some (asmRequest a op id v []))
    | none => .error .badOperands
  | _ => .error .badOperands

/-- `restore IMG`, with IMG the name of an image. -/
def asmRestore (a : AsmState) (args : List String) : AsmResult :=
  match args with
  | [n] =>
    match a.images.lookup n with
    | some img => .ok (a, some (asmRequest a 0x7 0 0 img))
    | none => .error .badOperands
  | _ => .error .badOperands

/-- A directive that sets a port value. -/
def asmPort (args : List String) (set : Word → AsmState) : AsmResult :=
  match args with
  | [x] =>
    match asmValue x with
    | some v => .ok (set v, none)
    | none => .error .badOperands
  | _ => .error .badOperands

/-- One line by its first word: the commands of R90, the directives, the pseudo-commands of R91. -/
def asmCommand (a : AsmState) (head : String) (args : List String) : AsmResult :=
  match head with
  | "rdp" => asmOne a 0x0 asmId args
  | "wrp" => asmWrite a 0x1 asmId id args
  | "rde" => asmOne a 0x2 asmId args
  | "wre" => asmWrite a 0x3 asmId id args
  | "name" => asmOne a 0x4 asmId args
  | "reset" => asmPlain a 0x5 args
  | "save" => asmPlain a 0x6 args
  | "restore" => asmRestore a args
  | "fire" => asmOne a 0x8 asmTimer args
  | "issched" => asmOne a 0x9 asmTimer args
  | "@ic" => asmPort args fun v => { a with ic := v }
  | "@sref" => asmPort args fun v => { a with sref := v }
  | "disable_cmpr" => asmWrite a 0x3 asmCompare (· ||| B63) args
  | "arm_cmpr" => asmWrite a 0x3 asmCompare (· &&& M63) args
  | "set_tick" => asmFixed a 0x3 3 args
  | "raw_tick" => asmFixed a 0x1 3 args
  | _ => .error .unknownCommand

/-- One line: a line starting with `;` is a comment (R90), and an empty line is nothing. -/
def asmLine (a : AsmState) (line : String) : AsmResult :=
  match line.toList with
  | ';' :: _ => .ok (a, none)
  | cs =>
    match asmWords [] cs with
    | [] => .ok (a, none)
    | head :: args => asmCommand a head args

/-- A program text: the commands it presents, in order. -/
def assemble (a : AsmState) : List String → Except AsmError (List Request)
  | [] => .ok []
  | l :: ls =>
    match asmLine a l with
    | .error e => .error e
    | .ok (b, r) =>
      match assemble b ls with
      | .error e => .error e
      | .ok rs => .ok (r.toList ++ rs)

end Sys2Proof.Machine
end

