-- ==== Sys2Proof/Safety.lean ====
section
/-! DEFINITION. The premises and the invariant that claims use: the launch premises (70_reset_and_hazards.md R278), the
end of a run (R279), the laws of the collaborators that a claim may assume (R277), and what every reachable state
satisfies. -/

namespace Sys2Proof.Machine

/-- `no_fault`: the fault record is empty (R278 (b)). -/
abbrev State.noFault (s : State) : Prop := s.fault = none

/-- `tl_ok`: `1 <= S.tl <= MAXTL` (R278 (c)). -/
abbrev State.tlOk (s : State) : Prop := 1 ≤ s.bank.tl.toNat ∧ s.bank.tl.toNat ≤ s.cfg.maxTL

/-- `nothing_armed`: every event is Unarmed (R278 (d)). -/
abbrev State.nothingArmed (s : State) : Prop :=
  s.events.tick.armed = false ∧ s.events.stick.armed = false ∧ s.events.hstick.armed = false

/-- `clean`: every field has its reset value, every event is Unarmed, the fault record is empty (R278 (a)). -/
abbrev State.clean (s : State) : Prop := s.bank = Bank.reset s.cfg ∧ s.nothingArmed ∧ s.noFault

/-- The run has ended: every command was performed and no event is armed (R279). -/
abbrev State.runEnded (s : State) : Prop := s.pending = [] ∧ s.nothingArmed

/-- A successful end: "a state in which the fault record is set is never a successful end" (R279). -/
abbrev State.endedWell (s : State) : Prop := s.runEnded ∧ s.noFault

/-- A run of `n` steps from `s` in which no command ended in an error: what a claim about a run takes as its premise
(R223, R278, R279). -/
def SafeRun (n : Nat) (s t : State) : Prop :=
  Host.Core.run Sys2Proof.core n s = .next t ∧ t.noFault

/-- Weak fairness of the event scheduler along an endless run, turn `n` being taken in state `n`: an event armed from
some step on is eventually fired. "A premise a claim may state, never a rule" (R183, R277, R279): no step assumes it. -/
def weaklyFair (turns : Nat → Turn) (states : Nat → State) : Prop :=
  ∀ (k : Timer) (n : Nat), (∀ m, n ≤ m → ((states m).events.get k).armed = true) →
    ∃ m, n ≤ m ∧ (turns m).fires = some k

/-- `IC` and `SREF` never decrease from one turn to the next. No law of the block says so: a claim that needs it takes
it as a premise (R277). -/
def samplesNonDecreasing : List Turn → Prop
  | [] => True
  | [_] => True
  | a :: b :: rest => a.ic.toNat ≤ b.ic.toNat ∧ a.sref.toNat ≤ b.sref.toNat ∧ samplesNonDecreasing (b :: rest)

/-- A timer event as the compare writes leave it: an armed one is allocated and holds a positive multiple of
`TIME_SCALE`, at most `2^63 - 1` of them; an unarmed one holds delay 0 (R32, R170, R174). -/
abbrev TimerEvent.wf (c : Config) (e : TimerEvent) : Prop :=
  if e.armed = true then
    e.alloc = true ∧ (c.timeScale : Int) ∣ e.delay ∧ (c.timeScale : Int) ≤ e.delay ∧
      e.delay ≤ (2 ^ 63 - 1) * (c.timeScale : Int)
  else e.delay = 0

/-- The three events are as compare writes, FIRE and RESET leave them. -/
abbrev Events.wf (c : Config) (es : Events) : Prop :=
  es.tick.wf c ∧ es.stick.wf c ∧ es.hstick.wf c

/-- The identifiers of the per-trap-level registers (R23). -/
def trapIds : List RegId := [13, 14, 15, 16, 30]

/-- The identifiers some access of which is NotImplemented (R225). -/
def notImplementedIds : List RegId := [4, 5, 6, 7, 8, 31, 32, 35]

/-- An error and the command word that raised it fit together: the info is the one R221 records, and the word is one
that the rule for the cause admits (R224 to R227). -/
abbrev Err.fits (c : Config) (e : Err) (w : CmdWord) : Prop :=
  match e with
  | .unknownRegister id => rsvdField w = 0 ∧ (opField w).toNat ≤ 4 ∧ id = idField w ∧ 56 ≤ id.toNat
  | .notImplemented (.register id) =>
    rsvdField w = 0 ∧ (opField w).toNat ≤ 3 ∧ id = idField w ∧ id ∈ notImplementedIds
  | .notImplemented (.fireBody k) => w = 0x8000 + BitVec.ofNat 16 (timerIndex k) ∧ c.trapDeliverySupplied = false
  | .invalidTrapLevel tl =>
    rsvdField w = 0 ∧ (opField w).toNat ≤ 3 ∧ idField w ∈ trapIds ∧ ¬(1 ≤ tl.toNat ∧ tl.toNat ≤ c.maxTL)
  | .illegalCommand cmd => cmd = w ∧ (rsvdField w ≠ 0 ∨ 5 ≤ (opField w).toNat)

/-- The fault record, where there is one, fits the word it records. -/
abbrev faultFits (c : Config) (f : Option FaultRecord) : Prop :=
  match f with
  | none => True
  | some r => r.err.fits c r.cmd

/-- What every state of the machine satisfies and every step keeps: the per-trap-level arrays have `MAXTL` elements
(R23), the events are as R170, R180 and R260 leave them, and the fault record fits its command word (R221, R223). -/
abbrev State.wf (s : State) : Prop :=
  s.bank.wf s.cfg.maxTL = true ∧ s.events.wf s.cfg ∧ faultFits s.cfg s.fault

end Sys2Proof.Machine
end

