-- ==== Sys2Proof/Certificates/Slice0/Obligations.lean ====
section
/-! DEFINITION. The statements for the provers. The tables here are written out from the spec's own tables a second
time (10_state.md R22, R30), so that a statement does not repeat the model's definitions. A statement that gives the
whole next state is also its frame and its completion: what the record update does not name is unchanged. The block
has no memory and no program counter, so no frame speaks of them. -/

open Sys2Proof Sys2Proof.Machine

namespace Sys2Proof.Claims

/-- The state after a command that ends in error `e` with command word `w` (R220, R223): the error is the response, the
fault record keeps the first error, nothing else changes. -/
def afterError (e : Err) (w : CmdWord) (s : State) : State :=
  { s with
    resp := .error e
    fault := match s.fault with
      | none => some { err := e, cmd := w }
      | some r => some r }

/-- The state after a command that returns OK and changes nothing. -/
def afterOk (d : RespData) (s : State) : State := { s with resp := .ok d }

/-- The state after a command that returns OK with no data and leaves the bank `b`. -/
def afterStore (b : Bank) (s : State) : State := { s with bank := b, resp := .ok .none }

/-- R30, the identifiers whose plain read and plain write are both verbatim: identifier, read, store. -/
def verbatimScalars : List (RegId × (Bank → Word) × (Bank → Word → Bank)) :=
  [(0, (·.y), fun b v => { b with y := v }),
   (1, (·.ccr), fun b v => { b with ccr := v }),
   (2, (·.asi), fun b v => { b with asi := v }),
   (4, (·.fprs), fun b v => { b with fprs := v }),
   (9, (·.softint), fun b v => { b with softint := v }),
   (10, (·.tickCmpr), fun b v => { b with tickCmpr := v }),
   (11, (·.stick), fun b v => { b with stick := v }),
   (12, (·.stickCmpr), fun b v => { b with stickCmpr := v }),
   (20, (·.tl), fun b v => { b with tl := v }),
   (21, (·.pil), fun b v => { b with pil := v }),
   (22, (·.cwp), fun b v => { b with cwp := v }),
   (23, (·.cansave), fun b v => { b with cansave := v }),
   (24, (·.canrestore), fun b v => { b with canrestore := v }),
   (25, (·.cleanwin), fun b v => { b with cleanwin := v }),
   (26, (·.otherwin), fun b v => { b with otherwin := v }),
   (27, (·.wstate), fun b v => { b with wstate := v }),
   (28, (·.gl), fun b v => { b with gl := v }),
   (29, (·.hpstate), fun b v => { b with hpstate := v }),
   (33, (·.strandSts), fun b v => { b with strandSts := v }),
   (34, (·.hstickCmpr), fun b v => { b with hstickCmpr := v }),
   (35, (·.fsr), fun b v => { b with fsr := v }),
   (36, (·.mmuPContext), fun b v => { b with mmuPContext := v }),
   (37, (·.mmuSContext), fun b v => { b with mmuSContext := v }),
   (38, (·.mmuPartId), fun b v => { b with mmuPartId := v }),
   (39, (·.mmuLsuCtrl), fun b v => { b with mmuLsuCtrl := v }),
   (40, (·.itlbC0Config), fun b v => { b with itlbC0Config := v }),
   (41, (·.itlbC0Status), fun b v => { b with itlbC0Status := v }),
   (42, (·.itlbCxConfig), fun b v => { b with itlbCxConfig := v }),
   (43, (·.itlbCxStatus), fun b v => { b with itlbCxStatus := v }),
   (44, (·.dtlbC0Config), fun b v => { b with dtlbC0Config := v }),
   (45, (·.dtlbC0Status), fun b v => { b with dtlbC0Status := v }),
   (46, (·.dtlbCxConfig), fun b v => { b with dtlbCxConfig := v }),
   (47, (·.dtlbCxStatus), fun b v => { b with dtlbCxStatus := v })]

/-- R22 and R30, the per-trap-level registers: identifier, the RDP and WRP commands, read, store. -/
def trapArrays : List (RegId × Instr × Instr × (Bank → List Word) × (Bank → List Word → Bank)) :=
  [(13, .rdpTpc, .wrpTpc, (·.tpc), fun b l => { b with tpc := l }),
   (14, .rdpTnpc, .wrpTnpc, (·.tnpc), fun b l => { b with tnpc := l }),
   (15, .rdpTstate, .wrpTstate, (·.tstate), fun b l => { b with tstate := l }),
   (16, .rdpTt, .wrpTt, (·.tt), fun b l => { b with tt := l }),
   (30, .rdpHtstate, .wrpHtstate, (·.htstate), fun b l => { b with htstate := l })]

/-- The accesses of the per-trap-level registers TPC, TNPC, TSTATE, TT and HTSTATE: RDP, WRP, RDE and WRE (R23). -/
def trapAccesses : List Instr :=
  [.rdpTpc, .rdpTnpc, .rdpTstate, .rdpTt, .rdpHtstate, .wrpTpc, .wrpTnpc, .wrpTstate, .wrpTt, .wrpHtstate,
   .rde 13, .rde 14, .rde 15, .rde 16, .rde 30, .wre 13, .wre 14, .wre 15, .wre 16, .wre 30]

/-- R30, the column "name". -/
def names : List (RegId × String) :=
  [(0, "Y"), (1, "CCR"), (2, "ASI"), (3, "TICK"),
   (4, "FPRS"), (5, "PCR"), (6, "PIC"), (7, "SOFTINT_SET"),
   (8, "SOFTINT_CLR"), (9, "SOFTINT"), (10, "TICK_CMPR"), (11, "STICK"),
   (12, "STICK_CMPR"), (13, "TPC"), (14, "TNPC"), (15, "TSTATE"),
   (16, "TT"), (17, "PRIVTICK"), (18, "TBA"), (19, "PSTATE"),
   (20, "TL"), (21, "PIL"), (22, "CWP"), (23, "CANSAVE"),
   (24, "CANRESTORE"), (25, "CLEANWIN"), (26, "OTHERWIN"), (27, "WSTATE"),
   (28, "GL"), (29, "HPSTATE"), (30, "HTSTATE"), (31, "HINTP"),
   (32, "HVER"), (33, "STRAND_STS"), (34, "HSTICK_CMPR"), (35, "FSR"),
   (36, "MMU_P_CONTEXT"), (37, "MMU_S_CONTEXT"), (38, "MMU_PART_ID"), (39, "MMU_LSU_CTRL"),
   (40, "ITLB_C0_CONFIG"), (41, "ITLB_C0_STATUS"), (42, "ITLB_CX_CONFIG"), (43, "ITLB_CX_STATUS"),
   (44, "DTLB_C0_CONFIG"), (45, "DTLB_C0_STATUS"), (46, "DTLB_CX_CONFIG"), (47, "DTLB_CX_STATUS"),
   (48, "SCRATCHPAD0"), (49, "SCRATCHPAD1"), (50, "SCRATCHPAD2"), (51, "SCRATCHPAD3"),
   (52, "SCRATCHPAD4"), (53, "SCRATCHPAD5"), (54, "SCRATCHPAD6"), (55, "SCRATCHPAD7")]

/-- R22, the column "save" of the scalar fields. -/
def savePositions : List (Nat × (Bank → Word)) :=
  [(0, (·.y)), (1, (·.ccr)), (2, (·.asi)), (3, (·.tick)),
   (4, (·.fprs)), (5, (·.softint)), (6, (·.tickCmpr)), (7, (·.stick)),
   (8, (·.stickCmpr)), (9, (·.tba)), (10, (·.pstate)), (11, (·.tl)),
   (12, (·.pil)), (13, (·.cwp)), (14, (·.cansave)), (15, (·.canrestore)),
   (16, (·.cleanwin)), (17, (·.otherwin)), (18, (·.wstate)), (19, (·.gl)),
   (20, (·.hpstate)), (21, (·.strandSts)), (22, (·.hstickCmpr)), (23, (·.fsr)),
   (24, (·.mmuPContext)), (25, (·.mmuSContext)), (26, (·.mmuPartId)), (27, (·.mmuLsuCtrl)),
   (28, (·.itlbC0Config)), (29, (·.itlbC0Status)), (30, (·.itlbCxConfig)), (31, (·.itlbCxStatus)),
   (32, (·.dtlbC0Config)), (33, (·.dtlbC0Status)), (34, (·.dtlbCxConfig)), (35, (·.dtlbCxStatus))]

/-- R107, R108 and R144: the commands that always end in NotImplemented, with the identifier recorded and the command
word of each. -/
def alwaysNotImplemented : List (Instr × RegId × CmdWord) :=
  [(.rdpPcr, 5, 0x0005), (.rdpPic, 6, 0x0006), (.rdpHintp, 31, 0x001F), (.rdpHver, 32, 0x0020),
   (.wrpPcr, 5, 0x1005), (.wrpPic, 6, 0x1006), (.wrpHintp, 31, 0x101F), (.wrpHver, 32, 0x1020),
   (.wrePcr, 5, 0x3005), (.wrePic, 6, 0x3006), (.wreHintp, 31, 0x301F), (.wreHver, 32, 0x3020),
   (.rdpSoftintSet, 7, 0x0007), (.rdpSoftintClr, 8, 0x0008),
   (.rdeSoftintSet, 7, 0x2007), (.rdeSoftintClr, 8, 0x2008),
   (.rdeFprs, 4, 0x2004), (.rdeFsr, 35, 0x2023), (.rdePcr, 5, 0x2005), (.rdePic, 6, 0x2006),
   (.rdeHintp, 31, 0x201F)]

/-- The three compare units (R85, 42_timer_compare.md): event, WRE, FIRE, ISSCHED, identifier, the FIRE word, and the
store into the register. -/
structure Unit where
  k : Timer
  wre : Instr
  fire : Instr
  issched : Instr
  id : RegId
  fireWord : CmdWord
  store : Bank → Word → Bank
  get : Events → TimerEvent
  put : Events → TimerEvent → Events

def units : List Unit :=
  [{ k := .tick, wre := .wreTickCmpr, fire := .fireTick, issched := .isschedTick, id := 10, fireWord := 0x8000
     store := fun b v => { b with tickCmpr := v }, get := (·.tick), put := fun es e => { es with tick := e } },
   { k := .stick, wre := .wreStickCmpr, fire := .fireStick, issched := .isschedStick, id := 12, fireWord := 0x8001
     store := fun b v => { b with stickCmpr := v }, get := (·.stick), put := fun es e => { es with stick := e } },
   { k := .hstick, wre := .wreHstickCmpr, fire := .fireHstick, issched := .isschedHstick, id := 34
     fireWord := 0x8002
     store := fun b v => { b with hstickCmpr := v }, get := (·.hstick),
     put := fun es e => { es with hstick := e } }]

/-- The reference count of R171 and R172 as a number below `2^63`. -/
def refNumber (k : Timer) (s : State) : Nat :=
  if k = .tick then
    if s.cfg.tickCmprRef = .live then (s.port.ic - s.bank.tick).toNat % 2 ^ 63 else s.bank.tick.toNat % 2 ^ 63
  else s.port.sref.toNat % 2 ^ 63

/-- `delta` of R170 for the value on WDATA, as an exact integer. -/
def delta (k : Timer) (s : State) : Int :=
  (s.port.wdata.toNat % 2 ^ 63 : Nat) - (refNumber k s : Int)

/-- The arming condition of R170 step 5: bit 63 of WDATA clear and `delta > 0`. -/
def arming (k : Timer) (s : State) : Prop := s.port.wdata.toNat < 2 ^ 63 ∧ 0 < delta k s

/-- The request a command stands for when presented with data `v`. -/
def withData (s : State) (v : Word) : State := { s with port := { s.port with wdata := v } }

/-- Perform a command with data `v`; the next state, where there is one. -/
def perform (i : Instr) (v : Word) (s : State) : Option State :=
  match exec i (withData s v) with
  | .next t => some t
  | _ => none

/-- Perform a list of commands with their data, one after the other. -/
def performAll : List (Instr × Word) → State → Option State
  | [], s => some s
  | (i, v) :: rest, s => (perform i v s).bind (performAll rest)

/-- The words that R87 calls illegal, for a request `r` presented in state `s`. -/
def illegal (s : State) (r : Request) : Prop :=
  rsvdField r.cmd ≠ 0 ∨ 0xA ≤ (opField r.cmd).toNat ∨
  ((opField r.cmd = 5 ∨ opField r.cmd = 6 ∨ opField r.cmd = 7) ∧ idField r.cmd ≠ 0) ∨
  ((opField r.cmd = 8 ∨ opField r.cmd = 9) ∧ 2 < (idField r.cmd).toNat) ∨
  (opField r.cmd = 7 ∧ r.img.length ≠ 44 + 5 * s.cfg.maxTL) ∨
  (opField r.cmd = 8 ∧ ∃ u ∈ units, (idField r.cmd).toNat = timerIndex u.k ∧ (u.get s.events).armed = false)

/-- The step that takes a presented command with word `w` answers IllegalCommand with that word and does nothing else. -/
def answersIllegal (w : CmdWord) (s : State) : Prop :=
  ∀ (r : Request) (rest : List Request), s.pending = r :: rest → r.cmd = w →
    step s = .next (afterError (.illegalCommand w) w { s with port := r, pending := rest, strobes := [] })

/-- The commands that read: RDP, RDE, NAME, SAVE, ISSCHED, by their OP field (R85). -/
def reads (i : Instr) : Prop :=
  opField (encode i) = 0 ∨ opField (encode i) = 2 ∨ opField (encode i) = 4 ∨ opField (encode i) = 6 ∨
    opField (encode i) = 9

/-- The commands that read or write PSTATE or HPSTATE as data: by identifier 19 or 29, or with the whole bank. -/
def touchesModes (i : Instr) : Prop :=
  ((opField (encode i)).toNat ≤ 3 ∧ (idField (encode i) = 19 ∨ idField (encode i) = 29)) ∨
    i = .reset ∨ i = .save ∨ i = .restore

/-- TBA has zeros in its low 15 bits and PSTATE has no bit outside `PSTATE_MASK` (R27, R28). -/
def masked (s : State) : Prop := s.bank.tba &&& 0x7FFF = 0 ∧ s.bank.pstate &&& ~~~s.cfg.pstateMask = 0

/-- What a write leaves in the register of an identifier: `mask(id, v)` of R112. -/
def maskOf (c : Config) (id : RegId) (v : Word) : Word :=
  if id = 18 then v &&& 0xFFFFFFFFFFFF8000 else if id = 19 then v &&& c.pstateMask else v

end Sys2Proof.Claims

open Sys2Proof.Claims

/-! Encoding, decoding and the step. -/

/-- Decoding the word of a well-formed command gives the command (R81, R85, R86). -/
def Obligations.DecodeAfterEncode : Prop :=
  ∀ i : Instr, i.wf = true → decode (encode i) = .ok i

/-- A decoded command is well-formed and its word is the word it was decoded from: each word has one meaning. -/
def Obligations.EncodeAfterDecode : Prop :=
  ∀ (w : CmdWord) (i : Instr), decode w = .ok i → i.wf = true ∧ encode i = w

/-- The decoder rejects exactly the words of R87 (c) and (d): every other word decodes to a row, those of R87 (a) and
(b) to the RESERVED rows. This split is the model's choice, by the reading of the table in assumption log 12: R87 treats
(a) to (d) alike, and the mask 0x0000 of the RESERVED.RSVD row would match every word. -/
def Obligations.DecodeRejectsExactly : Prop :=
  ∀ w : CmdWord, (∃ e, decode w = .error e) ↔
    rsvdField w = 0 ∧
      (((opField w = 5 ∨ opField w = 6 ∨ opField w = 7) ∧ idField w ≠ 0) ∨
       ((opField w = 8 ∨ opField w = 9) ∧ 2 < (idField w).toNat))

/-- A few words written out from the tables of R81 and R85 decode to their commands. -/
def Obligations.SampleWordsDecode : Prop :=
  decode 0x0002 = .ok (.rdp 2) ∧ decode 0x000D = .ok .rdpTpc ∧ decode 0x1037 = .ok (.wrp 55) ∧
  decode 0x1013 = .ok .wrpPstate ∧ decode 0x2020 = .ok .rdeHver ∧ decode 0x200D = .ok (.rde 13) ∧
  decode 0x300A = .ok .wreTickCmpr ∧ decode 0x3022 = .ok .wreHstickCmpr ∧ decode 0x40FF = .ok (.name 255) ∧
  decode 0x5000 = .ok .reset ∧ decode 0x6000 = .ok .save ∧ decode 0x7000 = .ok .restore ∧
  decode 0x8002 = .ok .fireHstick ∧ decode 0x9001 = .ok .isschedStick ∧ decode 0xF0FF = .ok (.reservedOpf 255) ∧
  decode 0x0138 = .ok (.reservedRsvd 0 1 0x38)

/-- A step takes the next presented command onto the port, with no strobe emitted yet, and runs what its word decodes
to; the commands after it stay presented (R68, R72, R80). -/
def Obligations.StepRunsDecodedCommand : Prop :=
  ∀ (s : State) (r : Request) (rest : List Request) (i : Instr),
    s.pending = r :: rest → decode r.cmd = .ok i →
      step s = exec i { s with port := r, pending := rest, strobes := [] }

/-- Every illegal word and operand of R87 answers IllegalCommand with the word recorded, no state change and no
strobe. -/
def Obligations.IllegalWordsAnswerIllegalCommand : Prop :=
  ∀ (s : State) (r : Request) (rest : List Request),
    s.pending = r :: rest → illegal s r →
      step s = .next (afterError (.illegalCommand r.cmd) r.cmd { s with port := r, pending := rest, strobes := [] })

/-- IllegalCommand has no other cause, and it records the command word (R221, R227). -/
def Obligations.IllegalCommandOnlyForIllegalWords : Prop :=
  ∀ (s t : State) (r : Request) (rest : List Request) (w : CmdWord),
    s.pending = r :: rest → step s = .next t → t.resp = .error (.illegalCommand w) → w = r.cmd ∧ illegal s r

/-- With nothing presented the step is idle: only the strobes of the command before are gone. The idle step is the
model's choice (assumption log 3). -/
def Obligations.IdleStepChangesNothing : Prop :=
  ∀ s : State, s.pending = [] → step s = .next { s with strobes := [] }

/-! The shape of every command. -/

/-- Every command of every state answers a next state, keeps the configuration, the port and what is still presented,
and only adds to the strobes: the block keeps running after every command, one that ends in an error too (R222). -/
def Obligations.EveryCommandAnswersNext : Prop :=
  ∀ (i : Instr) (s : State), ∃ (t : State) (out : List Strobe),
    exec i s = .next t ∧ t.cfg = s.cfg ∧ t.port = s.port ∧ t.pending = s.pending ∧ t.strobes = s.strobes ++ out

/-- Errors are precise (R220): a presented command word that ends in an error changes nothing but the response and the
fault record. The one exception is FIRE without trap delivery, whose event is consumed (R180). -/
def Obligations.ErrorsArePrecise : Prop :=
  ∀ (s t : State) (r : Request) (rest : List Request) (e : Err),
    s.pending = r :: rest → step s = .next t → t.resp = .error e →
      let before : State := { s with port := r, pending := rest, strobes := [] }
      (t = afterError e r.cmd before ∧ ∀ k, e ≠ .notImplemented (.fireBody k)) ∨
      (∃ u ∈ units, r.cmd = u.fireWord ∧ e = .notImplemented (.fireBody u.k) ∧ (u.get s.events).armed = true ∧
        s.cfg.trapDeliverySupplied = false ∧
        t = afterError e r.cmd
          { before with events := u.put s.events { u.get s.events with armed := false, delay := 0 } })

/-- The fault record is set by the first command that ends in an error, with its error and its word, never changes
afterwards, and is read by no command (R223). -/
def Obligations.FaultRecordIsFirstError : Prop :=
  (∀ (s t : State) (r : FaultRecord), step s = .next t → s.fault = some r → t.fault = some r) ∧
  (∀ (s t : State) (r : Request) (rest : List Request),
    s.pending = r :: rest → step s = .next t → s.fault = none →
      t.fault = match t.resp with
        | .ok _ => none
        | .error e => some { err := e, cmd := r.cmd }) ∧
  (∀ (i : Instr) (s t : State) (f : Option FaultRecord), exec i s = .next t →
    ∃ f', exec i { s with fault := f } = .next { t with fault := f' })

/-- UnknownRegister is answered exactly by RDP, WRP, RDE, WRE or NAME with an identifier of 56 to 255 (R224). -/
def Obligations.UnknownRegisterCauses : Prop :=
  ∀ (i : Instr) (s t : State) (id : RegId), exec i s = .next t →
    (t.resp = .error (.unknownRegister id) ↔
      (i = .rdp id ∨ i = .wrp id ∨ i = .rde id ∨ i = .wre id ∨ i = .name id) ∧ 56 ≤ id.toNat)

/-- NotImplemented is answered exactly by the accesses R225 lists and by FIRE of an armed event without trap
delivery, with the identifier or the timer recorded. -/
def Obligations.NotImplementedCauses : Prop :=
  ∀ (i : Instr) (s t : State) (w : Unmodelled), i.wf = true → exec i s = .next t →
    (t.resp = .error (.notImplemented w) ↔
      (∃ row ∈ alwaysNotImplemented, i = row.1 ∧ w = .register row.2.1) ∨
      (∃ u ∈ units, i = u.fire ∧ w = .fireBody u.k ∧ (u.get s.events).armed = true ∧
        s.cfg.trapDeliverySupplied = false))

/-- InvalidTrapLevel is answered exactly by a read or write of TPC, TNPC, TSTATE, TT or HTSTATE while TL is 0 or above
MAXTL, and records the value of TL (R226). -/
def Obligations.InvalidTrapLevelCauses : Prop :=
  ∀ (i : Instr) (s t : State) (v : Word), i.wf = true → exec i s = .next t →
    (t.resp = .error (.invalidTrapLevel v) ↔
      v = s.bank.tl ∧ (s.bank.tl = 0 ∨ s.cfg.maxTL < s.bank.tl.toNat) ∧
        i ∈ trapAccesses)

/-! RDP, WRP and NAME. -/

/-- RDP of every identifier of R100 returns its stored field and changes nothing; of 56 to 255, UnknownRegister. -/
def Obligations.RdpReturnsStoredField : Prop :=
  (∀ id : RegId, encode (.rdp id) = BitVec.ofNat 16 id.toNat) ∧
  (∀ row ∈ verbatimScalars, ∀ s : State, exec (.rdp row.1) s = .next (afterOk (.word (row.2.1 s.bank)) s)) ∧
  (∀ s : State, exec (.rdp 18) s = .next (afterOk (.word s.bank.tba) s)) ∧
  (∀ s : State, exec (.rdp 19) s = .next (afterOk (.word s.bank.pstate) s)) ∧
  (∀ (n : Fin 8) (s : State),
    exec (.rdp (BitVec.ofNat 8 (48 + n))) s = .next (afterOk (.word s.bank.scratch[n]) s)) ∧
  (∀ (id : RegId) (s : State), 56 ≤ id.toNat →
    exec (.rdp id) s = .next (afterError (.unknownRegister id) (BitVec.ofNat 16 id.toNat) s))

/-- RDP and RDE of a per-trap-level register return element `S.tl - 1` of its array when `1 <= S.tl <= MAXTL`, and end
in InvalidTrapLevel with the value of TL otherwise; they change nothing (R101, R130). -/
def Obligations.TrapArrayReads : Prop :=
  ∀ row ∈ trapArrays,
    encode row.2.1 = BitVec.ofNat 16 row.1.toNat ∧ encode (.rde row.1) = 0x2000 + BitVec.ofNat 16 row.1.toNat ∧
    (∀ (s : State) (v : Word), s.tlOk → (row.2.2.2.1 s.bank)[s.bank.tl.toNat - 1]? = some v →
      exec row.2.1 s = .next (afterOk (.word v) s) ∧ exec (.rde row.1) s = .next (afterOk (.word v) s)) ∧
    (∀ s : State, ¬s.tlOk → ∀ i ∈ [row.2.1, .rde row.1],
      exec i s = .next (afterError (.invalidTrapLevel s.bank.tl) (encode i) s))

/-- WRP and WRE of a per-trap-level register store WDATA verbatim into element `S.tl - 1` of its array when
`1 <= S.tl <= MAXTL` and change nothing else; otherwise they end in InvalidTrapLevel with no element written (R103,
R131). -/
def Obligations.TrapArrayWrites : Prop :=
  ∀ row ∈ trapArrays,
    encode row.2.2.1 = 0x1000 + BitVec.ofNat 16 row.1.toNat ∧
    encode (.wre row.1) = 0x3000 + BitVec.ofNat 16 row.1.toNat ∧
    (∀ s : State, s.tlOk →
      let t := afterStore
        (row.2.2.2.2 s.bank ((row.2.2.2.1 s.bank).set (s.bank.tl.toNat - 1) s.port.wdata)) s
      exec row.2.2.1 s = .next t ∧ exec (.wre row.1) s = .next t) ∧
    (∀ s : State, ¬s.tlOk → ∀ i ∈ [row.2.2.1, .wre row.1],
      exec i s = .next (afterError (.invalidTrapLevel s.bank.tl) (encode i) s))

/-- With TL at 0 or above MAXTL every access to a per-trap-level register raises InvalidTrapLevel with the value of TL
and changes nothing (R23). -/
def Obligations.TrapArrayAccessOutOfRange : Prop :=
  ∀ i ∈ trapAccesses, ∀ s : State, (s.bank.tl = 0 ∨ s.cfg.maxTL < s.bank.tl.toNat) →
    exec i s = .next (afterError (.invalidTrapLevel s.bank.tl) (encode i) s)

/-- RDP and WRP of TICK and PRIVTICK read and store the one field raw: no re-base, IC not read (R106). -/
def Obligations.PlainTickIsRaw : Prop :=
  encode .rdpTick = 0x0003 ∧ encode .rdpPrivtick = 0x0011 ∧ encode .wrpTick = 0x1003 ∧ encode .wrpPrivtick = 0x1011 ∧
  ∀ s : State,
    exec .rdpTick s = .next (afterOk (.word s.bank.tick) s) ∧
    exec .rdpPrivtick s = .next (afterOk (.word s.bank.tick) s) ∧
    exec .wrpTick s = .next (afterStore { s.bank with tick := s.port.wdata } s) ∧
    exec .wrpPrivtick s = .next (afterStore { s.bank with tick := s.port.wdata } s)

/-- The accesses of R107, R144 and the reads of R108 always end in NotImplemented and change nothing. -/
def Obligations.UnmodelledAccessesAnswerNotImplemented : Prop :=
  ∀ row ∈ alwaysNotImplemented, encode row.1 = row.2.2 ∧ ∀ s : State,
    exec row.1 s = .next (afterError (.notImplemented (.register row.2.1)) row.2.2 s)

/-- WRP of every identifier of R102 stores WDATA verbatim into its own field and does nothing else: a compare register
runs no state machine, CWP and GL send no notification. An identifier of 56 to 255 is UnknownRegister. -/
def Obligations.WrpStoresVerbatim : Prop :=
  (∀ id : RegId, encode (.wrp id) = 0x1000 + BitVec.ofNat 16 id.toNat) ∧
  (∀ row ∈ verbatimScalars, ∀ s : State,
    exec (.wrp row.1) s = .next (afterStore (row.2.2 s.bank s.port.wdata) s)) ∧
  (∀ (n : Fin 8) (s : State), exec (.wrp (BitVec.ofNat 8 (48 + n))) s =
    .next (afterStore { s.bank with scratch := s.bank.scratch.set n s.port.wdata } s)) ∧
  (∀ (id : RegId) (s : State), 56 ≤ id.toNat →
    exec (.wrp id) s = .next (afterError (.unknownRegister id) (0x1000 + BitVec.ofNat 16 id.toNat) s))

/-- WRP of TBA drops the low 15 bits of WDATA and WRP of PSTATE masks it with PSTATE_MASK, both silently (R104, R105). -/
def Obligations.WrpMaskedRegisters : Prop :=
  encode .wrpTba = 0x1012 ∧ encode .wrpPstate = 0x1013 ∧
  ∀ s : State,
    exec .wrpTba s = .next (afterStore { s.bank with tba := s.port.wdata &&& 0xFFFFFFFFFFFF8000 } s) ∧
    exec .wrpPstate s = .next (afterStore { s.bank with pstate := s.port.wdata &&& s.cfg.pstateMask } s)

/-- WRP of SOFTINT_SET and SOFTINT_CLR writes the one field SOFTINT as the policy says: STORE stores WDATA, SETCLR sets
or clears its bits. RDP and RDE of both end in NotImplemented (R108). -/
def Obligations.SoftintSetClrByPolicy : Prop :=
  encode .rdpSoftintSet = 0x0007 ∧ encode .rdpSoftintClr = 0x0008 ∧ encode .rdeSoftintSet = 0x2007 ∧
  encode .rdeSoftintClr = 0x2008 ∧ encode .wrpSoftintSet = 0x1007 ∧ encode .wrpSoftintClr = 0x1008 ∧
  ∀ s : State,
    (∀ i ∈ [Instr.rdpSoftintSet, .rdeSoftintSet],
      exec i s = .next (afterError (.notImplemented (.register 7)) (encode i) s)) ∧
    (∀ i ∈ [Instr.rdpSoftintClr, .rdeSoftintClr],
      exec i s = .next (afterError (.notImplemented (.register 8)) (encode i) s)) ∧
    (s.cfg.softintPolicy = .store →
      exec .wrpSoftintSet s = .next (afterStore { s.bank with softint := s.port.wdata } s) ∧
      exec .wrpSoftintClr s = .next (afterStore { s.bank with softint := s.port.wdata } s)) ∧
    (s.cfg.softintPolicy = .setclr →
      exec .wrpSoftintSet s = .next (afterStore { s.bank with softint := s.bank.softint ||| s.port.wdata } s) ∧
      exec .wrpSoftintClr s = .next (afterStore { s.bank with softint := s.bank.softint &&& ~~~s.port.wdata } s))

/-- NAME returns the name of every identifier 0 to 55 and changes nothing; of 56 to 255, UnknownRegister (R110). -/
def Obligations.NameReturnsRegisterName : Prop :=
  (∀ id : RegId, encode (.name id) = 0x4000 + BitVec.ofNat 16 id.toNat) ∧
  (∀ row ∈ names, ∀ s : State, exec (.name row.1) s = .next (afterOk (.name row.2) s)) ∧
  (∀ (id : RegId) (s : State), 56 ≤ id.toNat →
    exec (.name id) s = .next (afterError (.unknownRegister id) (0x4000 + BitVec.ofNat 16 id.toNat) s))

/-- The write-read law (R112): for every identifier whose RDP and WRP both succeed, the command WRP of it with data `v`
and then the command RDP of it returns `mask(id, v)`. -/
def Obligations.WriteReadLaw : Prop :=
  ∀ (id : RegId) (s : State) (v : Word),
    id.toNat < 56 → id ∉ ([5, 6, 7, 8, 31, 32] : List RegId) → s.bank.wf s.cfg.maxTL = true →
    (id ∈ ([13, 14, 15, 16, 30] : List RegId) → s.tlOk) →
      ∃ (wr rd : Instr) (t : State),
        decode (0x1000 + BitVec.ofNat 16 id.toNat) = .ok wr ∧ decode (BitVec.ofNat 16 id.toNat) = .ok rd ∧
        perform wr v s = some t ∧ exec rd t = .next (afterOk (.word (maskOf s.cfg id v)) t)

/-- The trap-level separation law (R113): what was written to a per-trap-level register at trap level `l` is read back
at `l`, whatever was written to it at other trap levels in between, through WRP or WRE. -/
def Obligations.TrapLevelSeparation : Prop :=
  ∀ row ∈ trapArrays, ∀ (s : State) (l v : Word) (others : List (Word × Bool × Word)),
    s.bank.wf s.cfg.maxTL = true → 1 ≤ l.toNat → l.toNat ≤ s.cfg.maxTL → (∀ o ∈ others, o.1 ≠ l) →
      ∀ first ∈ [row.2.2.1, .wre row.1],
        ∃ t : State,
          performAll ((.wreTl, l) :: (first, v) ::
            others.flatMap (fun o => [(.wreTl, o.1), (if o.2.1 then row.2.2.1 else .wre row.1, o.2.2)]) ++
            [(.wreTl, l)]) s = some t ∧
          exec row.2.1 t = .next (afterOk (.word v) t) ∧ exec (.rde row.1) t = .next (afterOk (.word v) t)

/-! RDE. -/

/-- RDE of every identifier without a case of its own returns what RDP returns and changes nothing; of 56 to 255,
UnknownRegister (R130). -/
def Obligations.RdeDelegatesToPlainRead : Prop :=
  (∀ row ∈ verbatimScalars, row.1 ≠ 4 → row.1 ≠ 35 → ∀ s : State,
    exec (.rde row.1) s = .next (afterOk (.word (row.2.1 s.bank)) s)) ∧
  (∀ s : State, exec (.rde 18) s = .next (afterOk (.word s.bank.tba) s)) ∧
  (∀ s : State, exec (.rde 19) s = .next (afterOk (.word s.bank.pstate) s)) ∧
  (∀ (n : Fin 8) (s : State),
    exec (.rde (BitVec.ofNat 8 (48 + n))) s = .next (afterOk (.word s.bank.scratch[n]) s)) ∧
  (∀ (id : RegId) (s : State), 56 ≤ id.toNat →
    exec (.rde id) s = .next (afterError (.unknownRegister id) (0x2000 + BitVec.ofNat 16 id.toNat) s))

/-- RDE of TICK and of PRIVTICK returns bits 62..2 of the elapsed count, the stored enable bit in bit 63 and zeros in
bits 1..0, and changes nothing (R140). Said bit by bit, with the elapsed count as a number modulo `2^63`. -/
def Obligations.RdeTickReturnsCount : Prop :=
  encode .rdeTick = 0x2003 ∧ encode .rdePrivtick = 0x2011 ∧
  ∀ s : State, ∃ w : Word,
    exec .rdeTick s = .next (afterOk (.word w) s) ∧ exec .rdePrivtick s = .next (afterOk (.word w) s) ∧
    w.toNat = ((s.port.ic.toNat + 2 ^ 64 - s.bank.tick.toNat) % 2 ^ 63) / 4 * 4 +
      (if s.bank.tick.getLsbD 63 then 2 ^ 63 else 0)

/-- WRE of TICK and of PRIVTICK stores the re-base word: `IC - value` modulo `2^63`, with bit 63 of the value (R141). -/
def Obligations.WreTickRebases : Prop :=
  encode .wreTick = 0x3003 ∧ encode .wrePrivtick = 0x3011 ∧
  ∀ s : State,
    let w : Word := ((s.port.ic - s.port.wdata) &&& 0x7FFFFFFFFFFFFFFF) ||| (s.port.wdata &&& 0x8000000000000000)
    exec .wreTick s = .next (afterStore { s.bank with tick := w } s) ∧
    exec .wrePrivtick s = .next (afterStore { s.bank with tick := w } s)

/-- The counter law (R154): after a write of `v` at IC0 and no later write to the counter, a read at IC1 returns
`v + (IC1 - IC0)` in bits 62..2 and bit 63 of `v`. -/
def Obligations.CounterLaw : Prop :=
  ∀ wr ∈ ([.wreTick, .wrePrivtick] : List Instr), ∀ rd ∈ ([.rdeTick, .rdePrivtick] : List Instr),
    ∀ s t u : State, exec wr s = .next t → u.bank.tick = t.bank.tick →
      exec rd u = .next (afterOk (.word
        (((s.port.wdata + (u.port.ic - s.port.ic)) &&& 0x7FFFFFFFFFFFFFFC) |||
          (s.port.wdata &&& 0x8000000000000000))) u)

/-- STICK is read and stored verbatim on the effectful path, whatever IC is (R142). -/
def Obligations.StickIsVerbatim : Prop :=
  ∀ s : State,
    exec .rdeStick s = .next (afterOk (.word s.bank.stick) s) ∧
    exec .wreStick s = .next (afterStore { s.bank with stick := s.port.wdata } s)

/-- RDE of HVER returns the word with NWINDOWS in bits 7:0, MAXTL in 15:8, MAXGL in 23:16 and zeros above, and changes
nothing (R31, R143). -/
def Obligations.RdeHverPacksParameters : Prop :=
  encode .rdeHver = 0x2020 ∧
  ∀ s : State, exec .rdeHver s =
    .next (afterOk (.word (BitVec.ofNat 64 (s.cfg.nWindows + 256 * s.cfg.maxTL + 65536 * s.cfg.maxGL))) s)

/-! WRE. -/

/-- WRE of an identifier without a case of its own stores what WRP stores and does nothing else; TBA masked; of 56 to
255, UnknownRegister (R131). -/
def Obligations.WreFallsThroughToPlainStore : Prop :=
  (∀ row ∈ verbatimScalars, row.1 ∉ ([9, 10, 11, 12, 20, 22, 28, 34] : List RegId) → ∀ s : State,
    exec (.wre row.1) s = .next (afterStore (row.2.2 s.bank s.port.wdata) s)) ∧
  (∀ s : State, exec (.wre 18) s =
    .next (afterStore { s.bank with tba := s.port.wdata &&& 0xFFFFFFFFFFFF8000 } s)) ∧
  (∀ (n : Fin 8) (s : State), exec (.wre (BitVec.ofNat 8 (48 + n))) s =
    .next (afterStore { s.bank with scratch := s.bank.scratch.set n s.port.wdata } s)) ∧
  (∀ (id : RegId) (s : State), 56 ≤ id.toNat →
    exec (.wre id) s = .next (afterError (.unknownRegister id) (0x3000 + BitVec.ofNat 16 id.toNat) s))

/-- WRE of PSTATE stores masked and of TL verbatim, with no further side effect (R146). -/
def Obligations.WrePstateAndTlStore : Prop :=
  encode .wrePstate = 0x3013 ∧ encode .wreTl = 0x3014 ∧
  ∀ s : State,
    exec .wrePstate s = .next (afterStore { s.bank with pstate := s.port.wdata &&& s.cfg.pstateMask } s) ∧
    exec .wreTl s = .next (afterStore { s.bank with tl := s.port.wdata } s)

/-- WRE of CWP and GL stores WDATA and notifies the register-window collaborator with the whole value, once (R150). -/
def Obligations.WreCwpAndGlNotify : Prop :=
  encode .wreCwp = 0x3016 ∧ encode .wreGl = 0x301C ∧
  ∀ s : State,
    exec .wreCwp s = .next (afterStore { s.bank with cwp := s.port.wdata }
      { s with strobes := s.strobes ++ [.ctxChange .currentWindow s.port.wdata] }) ∧
    exec .wreGl s = .next (afterStore { s.bank with gl := s.port.wdata }
      { s with strobes := s.strobes ++ [.ctxChange .globalSet s.port.wdata] })

/-- WRE of SOFTINT_SET, SOFTINT_CLR and SOFTINT stores as the plain path does and emits the software-interrupt strobe
with the identifier and the written value (R151). -/
def Obligations.WreSoftintStoresAndStrobes : Prop :=
  encode .wreSoftintSet = 0x3007 ∧ encode .wreSoftintClr = 0x3008 ∧ encode .wreSoftint = 0x3009 ∧
  ∀ s : State,
    exec .wreSoftint s = .next (afterStore { s.bank with softint := s.port.wdata }
      { s with strobes := s.strobes ++ [.softintWr 9 s.port.wdata] }) ∧
    (∃ b : Bank, exec .wrpSoftintSet s = .next (afterStore b s) ∧
      exec .wreSoftintSet s = .next (afterStore b
        { s with strobes := s.strobes ++ [.softintWr 7 s.port.wdata] })) ∧
    (∃ b : Bank, exec .wrpSoftintClr s = .next (afterStore b s) ∧
      exec .wreSoftintClr s = .next (afterStore b
        { s with strobes := s.strobes ++ [.softintWr 8 s.port.wdata] }))

/-! The compare timers. -/

/-- A compare write (R170): the register takes WDATA verbatim, the event is allocated; an arming write reschedules it
with delay `delta * TIME_SCALE`; a write that does not arm cancels an old schedule if it is disabled or the policy is
CANCEL, and leaves it otherwise; the strobes are DESCHED of an old schedule that was cancelled, then SCHED. -/
def Obligations.CompareWrite : Prop :=
  ∀ u ∈ units, encode u.wre = 0x3000 + BitVec.ofNat 16 u.id.toNat ∧ ∀ s : State,
    let e := u.get s.events
    let d := delta u.k s * s.cfg.timeScale
    let t := fun (e' : TimerEvent) (out : List Strobe) => afterStore (u.store s.bank s.port.wdata)
      { s with events := u.put s.events e', strobes := s.strobes ++ out }
    let old := if e.armed = true then [Strobe.desched u.k] else []
    (arming u.k s →
      exec u.wre s = .next (t { alloc := true, armed := true, delay := d } (old ++ [.sched u.k d]))) ∧
    (¬arming u.k s → (2 ^ 63 ≤ s.port.wdata.toNat ∨ s.cfg.stalePolicy = .cancel) →
      exec u.wre s =
        .next (t { alloc := true, armed := false, delay := if e.armed = true then 0 else e.delay } old)) ∧
    (¬arming u.k s → s.port.wdata.toNat < 2 ^ 63 → s.cfg.stalePolicy = .keep →
      exec u.wre s = .next (t { e with alloc := true } []))

/-- No command but the compare write of event k, FIRE k and RESET changes `E[k]` (R176), so the three events are
independent but for RESET (R33). -/
def Obligations.EventChangesOnlyByItsCommands : Prop :=
  ∀ u ∈ units, ∀ (i : Instr) (s t : State), exec i s = .next t →
    u.get t.events ≠ u.get s.events → i = u.wre ∨ i = u.fire ∨ i = .reset

/-- The scheduling law (R184): after an enabled write with `delta > 0` ISSCHED returns 1; after a disabling write that
follows it ISSCHED returns 0, that write emits exactly one DESCHED and nothing else, and FIRE is IllegalCommand. -/
def Obligations.SchedulingLaw : Prop :=
  ∀ u ∈ units, ∀ (s t t' : State) (v : Word),
    arming u.k s → exec u.wre s = .next t → 2 ^ 63 ≤ v.toNat → exec u.wre (withData t v) = .next t' →
      exec u.issched t = .next (afterOk (.word 1) t) ∧
      exec u.issched t' = .next (afterOk (.word 0) t') ∧
      t'.strobes = t.strobes ++ [.desched u.k] ∧
      exec u.fire t' = .next (afterError (.illegalCommand u.fireWord) u.fireWord t')

/-- FIRE (R180): of an armed event it consumes the event and, with trap delivery supplied, emits TRAP_REQ and returns
OK; without, it ends in NotImplemented with the event consumed; of an unarmed event or of a timer index above 2 it is
IllegalCommand. No stored field changes (R181). -/
def Obligations.FireConsumesArmedEvent : Prop :=
  (∀ id : RegId, 2 < id.toNat → ∀ s, answersIllegal (0x8000 + BitVec.ofNat 16 id.toNat) s) ∧
  ∀ u ∈ units, encode u.fire = u.fireWord ∧ ∀ s : State,
    let consumed : State :=
      { s with events := u.put s.events { u.get s.events with armed := false, delay := 0 } }
    ((u.get s.events).armed = true → s.cfg.trapDeliverySupplied = true →
      exec u.fire s = .next (afterOk .none { consumed with strobes := s.strobes ++ [.trapReq u.k] })) ∧
    ((u.get s.events).armed = true → s.cfg.trapDeliverySupplied = false →
      exec u.fire s = .next (afterError (.notImplemented (.fireBody u.k)) u.fireWord consumed)) ∧
    ((u.get s.events).armed = false →
      exec u.fire s = .next (afterError (.illegalCommand u.fireWord) u.fireWord s))

/-- ISSCHED returns 1 when the event is Armed and 0 when it is Unarmed, and changes nothing; of a timer index above 2 it
is IllegalCommand (R182). -/
def Obligations.IsSchedReturnsArmed : Prop :=
  (∀ id : RegId, 2 < id.toNat → ∀ s, answersIllegal (0x9000 + BitVec.ofNat 16 id.toNat) s) ∧
  ∀ u ∈ units, encode u.issched = 0x9000 + BitVec.ofNat 16 (timerIndex u.k) ∧ ∀ s : State,
    exec u.issched s = .next (afterOk (.word (if (u.get s.events).armed = true then 1 else 0)) s)

/-- Every TRAP_REQ is emitted by a FIRE of an armed event that returns OK: nothing else in the block raises an
interrupt (R230). -/
def Obligations.TrapRequestOnlyByFire : Prop :=
  ∀ (i : Instr) (s t : State) (out : List Strobe) (k : Timer),
    exec i s = .next t → t.strobes = s.strobes ++ out → .trapReq k ∈ out →
      ∃ u ∈ units, u.k = k ∧ i = u.fire ∧ (u.get s.events).armed = true ∧ out = [.trapReq k] ∧
        t.resp = .ok .none

/-- The register-window collaborator is notified by WRE of CWP and GL alone, and the software-interrupt strobe comes
from WRE of the SOFTINT group alone: WRP, RESTORE and RESET emit neither (R150, R203, R260). -/
def Obligations.NotificationsOnlyByEffectfulWrites : Prop :=
  ∀ (i : Instr) (s t : State) (out : List Strobe) (b : Strobe),
    exec i s = .next t → t.strobes = s.strobes ++ out → b ∈ out →
      (∀ kind v, b = .ctxChange kind v →
        (i = .wreCwp ∧ kind = .currentWindow ∨ i = .wreGl ∧ kind = .globalSet) ∧ v = s.port.wdata) ∧
      (∀ id v, b = .softintWr id v →
        (i = .wreSoftintSet ∧ id = 7 ∨ i = .wreSoftintClr ∧ id = 8 ∨ i = .wreSoftint ∧ id = 9) ∧
          v = s.port.wdata)

/-! SAVE, RESTORE and RESET. -/

/-- SAVE returns the image of `44 + 5*MAXTL` words, each raw stored field at its position, and changes nothing
(R201, R202). -/
def Obligations.SaveReturnsImage : Prop :=
  encode .save = 0x6000 ∧
  ∀ s : State, s.bank.wf s.cfg.maxTL = true → ∃ img : List Word,
    exec .save s = .next (afterOk (.image img) s) ∧ img.length = 44 + 5 * s.cfg.maxTL ∧
    (∀ p ∈ savePositions, img[p.1]? = some (p.2 s.bank)) ∧
    (∀ j < s.cfg.maxTL,
      img[36 + j]? = s.bank.tpc[j]? ∧ img[36 + s.cfg.maxTL + j]? = s.bank.tnpc[j]? ∧
      img[36 + 2 * s.cfg.maxTL + j]? = s.bank.tstate[j]? ∧ img[36 + 3 * s.cfg.maxTL + j]? = s.bank.tt[j]? ∧
      img[36 + 4 * s.cfg.maxTL + j]? = s.bank.htstate[j]?) ∧
    (∀ n : Fin 8, img[36 + 5 * s.cfg.maxTL + n]? = some s.bank.scratch[n])

/-- RESTORE of an image of `44 + 5*MAXTL` words writes every field raw from its position, keeps the timer events and
emits nothing; one of any other length is IllegalCommand and writes no field (R203, R204). -/
def Obligations.RestoreWritesImage : Prop :=
  encode .restore = 0x7000 ∧
  (∀ s : State, s.port.img.length = 44 + 5 * s.cfg.maxTL → ∃ b : Bank,
    exec .restore s = .next (afterStore b s) ∧ b.wf s.cfg.maxTL = true ∧
    (∀ p ∈ savePositions, s.port.img[p.1]? = some (p.2 b)) ∧
    (∀ j < s.cfg.maxTL,
      b.tpc[j]? = s.port.img[36 + j]? ∧ b.tnpc[j]? = s.port.img[36 + s.cfg.maxTL + j]? ∧
      b.tstate[j]? = s.port.img[36 + 2 * s.cfg.maxTL + j]? ∧ b.tt[j]? = s.port.img[36 + 3 * s.cfg.maxTL + j]? ∧
      b.htstate[j]? = s.port.img[36 + 4 * s.cfg.maxTL + j]?) ∧
    (∀ n : Fin 8, s.port.img[36 + 5 * s.cfg.maxTL + n]? = some b.scratch[n])) ∧
  (∀ s : State, s.port.img.length ≠ 44 + 5 * s.cfg.maxTL →
    exec .restore s = .next (afterError (.illegalCommand 0x7000) 0x7000 s))

/-- The round-trip laws (R205): RESTORE of a saved image gives back every field, whatever happened in between; and SAVE
after RESTORE of an image returns the image word for word. -/
def Obligations.SaveRestoreRoundTrip : Prop :=
  (∀ (s u : State) (img : List Word), s.bank.wf s.cfg.maxTL = true → u.cfg = s.cfg →
    exec .save s = .next (afterOk (.image img) s) → u.port.img = img →
      exec .restore u = .next (afterStore s.bank u)) ∧
  (∀ s t : State, s.port.img.length = 44 + 5 * s.cfg.maxTL → exec .restore s = .next t →
    exec .save t = .next (afterOk (.image s.port.img) t))

/-- The byte form of an image (R206): 8 bytes a word, the most significant first, words in image order; the bytes give
the image back. -/
def Obligations.ImageBytesMostSignificantFirst : Prop :=
  ∀ img : List Word,
    (imageBytes img).length = 8 * img.length ∧
    (∀ (i j : Nat) (w : Word), img[i]? = some w → j < 8 →
      (imageBytes img)[8 * i + j]? = some ((w >>> (56 - 8 * j)).setWidth 8)) ∧
    imageOfBytes (imageBytes img) = some img

/-- RESET (R260): every field takes its reset value, every armed event is descheduled with one DESCHED, timer 0 first;
`alloc` and the fault record stay, and no other strobe is emitted. -/
def Obligations.ResetCommand : Prop :=
  encode .reset = 0x5000 ∧
  ∀ s : State, ∃ t : State, exec .reset s = .next t ∧
    t = { s with bank := t.bank, events := t.events, strobes := t.strobes, resp := .ok .none } ∧
    (∀ p ∈ savePositions, p.1 ≠ 20 → p.1 ≠ 21 → p.2 t.bank = 0) ∧
    t.bank.hpstate = BitVec.twoPow 64 s.cfg.hpstateResetBit ∧ t.bank.strandSts = s.cfg.strandStsReset ∧
    (∀ row ∈ trapArrays, row.2.2.2.1 t.bank = List.replicate s.cfg.maxTL 0) ∧
    (∀ n : Fin 8, t.bank.scratch[n] = 0) ∧
    (∀ u ∈ units, u.get t.events =
      if (u.get s.events).armed = true then { u.get s.events with armed := false, delay := 0 }
      else u.get s.events) ∧
    t.strobes = s.strobes ++
      (units.filter fun u => (u.get s.events).armed).map fun u => Strobe.desched u.k

/-- The reset law (R262): after RESET, RDP of HPSTATE returns a word with its designated bit set, RDP of every
scratch-pad slot returns 0, and RDP of STRAND_STS returns the reset constant, which is not 0. -/
def Obligations.ResetLaw : Prop :=
  ∀ s t : State, exec .reset s = .next t →
    (∃ w : Word, exec (.rdp 29) t = .next (afterOk (.word w) t) ∧ w.getLsbD s.cfg.hpstateResetBit = true) ∧
    (∀ n : Fin 8, exec (.rdp (BitVec.ofNat 8 (48 + n))) t = .next (afterOk (.word 0) t)) ∧
    (exec (.rdp 33) t = .next (afterOk (.word s.cfg.strandStsReset) t) ∧ s.cfg.strandStsReset ≠ 0)

/-- A block that has seen no RESET holds any values (R264); its first RESET takes it to the reset state. That the model
starts at the state right after RESET is its choice (assumption log 7). -/
def Obligations.ResetFromPowerOn : Prop :=
  ∀ (c : Config) (b : Bank), exec .reset (State.powerOn c b) = .next (State.resetWith c)

/-! Whole-machine rules. -/

/-- Read commands change nothing but the response and, where they end in an error, the fault record; the same read again,
with the same samples, gives the same response (R65). -/
def Obligations.ReadsChangeNothing : Prop :=
  ∀ (i : Instr) (s t : State), reads i → exec i s = .next t →
    t = { s with resp := t.resp, fault := t.fault } ∧ ∃ t', exec i t = .next t' ∧ t'.resp = t.resp

/-- IC is read by the effectful accesses of TICK and PRIVTICK and by the tick compare alone, and SREF by the two
system-tick compares alone: no other command depends on them (R84). -/
def Obligations.SamplesReachOnlyTheirCommands : Prop :=
  ∀ (i : Instr) (s t : State) (x : Word), exec i s = .next t →
    (i ∉ ([.rdeTick, .rdePrivtick, .wreTick, .wrePrivtick, .wreTickCmpr] : List Instr) →
      exec i { s with port := { s.port with ic := x } } = .next { t with port := { t.port with ic := x } }) ∧
    (i ∉ ([.wreStickCmpr, .wreHstickCmpr] : List Instr) →
      exec i { s with port := { s.port with sref := x } } = .next { t with port := { t.port with sref := x } })

/-- The block has no mode: no bit of PSTATE or HPSTATE changes what a command does, for every command that does not
access those words as data (R241). -/
def Obligations.ModesChangeNoRule : Prop :=
  ∀ (i : Instr) (s t : State) (p h : Word), i.wf = true → ¬touchesModes i → exec i s = .next t →
    exec i { s with bank := { s.bank with pstate := p, hpstate := h } } =
      .next { t with bank := { t.bank with pstate := p, hpstate := h } }

/-- RESTORE is the only way to place a bit in TBA's low 15 bits or outside PSTATE's mask: every other command keeps
them clear (R27, R28). -/
def Obligations.MasksHoldWithoutRestore : Prop :=
  ∀ (i : Instr) (s t : State), i ≠ .restore → masked s → exec i s = .next t → masked t

/-- The reserved command words answer IllegalCommand with no state change and no strobe (R87 (a), (b)). -/
def Obligations.ReservedWordsAnswerIllegalCommand : Prop :=
  ∀ (s : State) (op rsvd : BitVec 4) (id : RegId),
    ∀ i ∈ [Instr.reservedOpa id, .reservedOpb id, .reservedOpc id, .reservedOpd id, .reservedOpe id,
        .reservedOpf id, .reservedRsvd op rsvd id],
      exec i s = .next (afterError (.illegalCommand (encode i)) (encode i) s)

/-- The pseudo-commands expand to the one command R91 gives each, with the port values in force. -/
def Obligations.PseudoCommandsExpand : Prop :=
  ∀ (a : AsmState) (n x : String) (v : Word), asmValue x = some v →
    (∀ id, asmCompare n = some id →
      asmCommand a "disable_cmpr" [n, x] = .ok (a, some
        { cmd := 0x3000 + BitVec.ofNat 16 id.toNat, wdata := v ||| 0x8000000000000000, img := [], ic := a.ic,
          sref := a.sref }) ∧
      asmCommand a "arm_cmpr" [n, x] = .ok (a, some
        { cmd := 0x3000 + BitVec.ofNat 16 id.toNat, wdata := v &&& 0x7FFFFFFFFFFFFFFF, img := [], ic := a.ic,
          sref := a.sref })) ∧
    asmCommand a "set_tick" [x] = .ok (a, some
      { cmd := 0x3003, wdata := v, img := [], ic := a.ic, sref := a.sref }) ∧
    asmCommand a "raw_tick" [x] = .ok (a, some
      { cmd := 0x1003, wdata := v, img := [], ic := a.ic, sref := a.sref })

/-- The invariant every step keeps: the per-trap-level arrays have `MAXTL` elements; an armed event is allocated and
holds a positive multiple of TIME_SCALE, an unarmed one delay 0; the fault record fits the word it records. -/
def Obligations.StepKeepsInvariant : Prop :=
  ∀ s t : State, s.wf → step s = .next t → t.wf

/-- The invariant holds at reset, of every configuration, and of the hardware's own reset state; and reset is clean
(R261, R278 (a)). -/
def Obligations.InvariantAtReset : Prop :=
  (∀ c : Config, (State.resetWith c).wf ∧ (State.resetWith c).clean) ∧ State.reset.wf

/-! The agents. -/

/-- The words each agent may issue (R80, R277): the execution context every command but FIRE, the scheduler the three
FIRE words, the persistence framework SAVE and RESTORE, the other collaborators none. A reserved word is nobody's. -/
def Obligations.AgentsIssueTheirCommands : Prop :=
  ∀ (w : CmdWord) (i : Instr), decode w = .ok i →
    (Agent.executionContext.mayIssue i = true ↔ rsvdField w = 0 ∧ (opField w).toNat ≤ 9 ∧ opField w ≠ 8) ∧
    (Agent.eventScheduler.mayIssue i = true ↔ w = 0x8000 ∨ w = 0x8001 ∨ w = 0x8002) ∧
    (Agent.persistenceFramework.mayIssue i = true ↔ w = 0x6000 ∨ w = 0x7000) ∧
    Agent.systemCollaborator.mayIssue i = false ∧ Agent.interruptCollaborator.mayIssue i = false ∧
    Agent.registerWindow.mayIssue i = false

/-- The scheduler may fire an event exactly while it is armed (R183, R277). A turn that is a move of R277 takes a step,
and the block gives back what R277 says: to the scheduler TRAP_REQ(k) with OK, or NotImplemented where trap delivery is
not supplied; to the persistence framework OK with an image or with no data, and no strobe; to the execution context no
trap request of its own making. IllegalCommand comes back only for a RESTORE of the execution context with an image that
does not have `44 + 5*MAXTL` words. -/
def Obligations.LegalTurnsGetTheirAnswer : Prop :=
  (∀ u ∈ units, ∀ (m : Turn) (s : State), m.issuer = .eventScheduler → m.cmd = u.fireWord →
    (m.legal s = true ↔ (u.get s.events).armed = true)) ∧
  ∀ (m : Turn) (rest : List Request) (s : State), s.pending = m.request :: rest → m.legal s = true →
    ∃ t, step s = .next t ∧
      (∀ w, t.resp = .error (.illegalCommand w) →
        m.issuer = .executionContext ∧ m.cmd = 0x7000 ∧ m.img.length ≠ 44 + 5 * s.cfg.maxTL) ∧
      (m.issuer = .eventScheduler → ∃ u ∈ units, m.cmd = u.fireWord ∧ (u.get t.events).armed = false ∧
        if s.cfg.trapDeliverySupplied = true then t.resp = .ok .none ∧ t.strobes = [.trapReq u.k]
        else t.resp = .error (.notImplemented (.fireBody u.k)) ∧ t.strobes = []) ∧
      (m.issuer = .persistenceFramework →
        t.strobes = [] ∧ (t.resp = .ok .none ∨ ∃ img, t.resp = .ok (.image img))) ∧
      (m.issuer = .executionContext → ∀ k, .trapReq k ∉ t.strobes)
end

