-- ==== Sys2Proof/Laws/Bank.lean ====
section
/-! SUPPORT. Reading back what was stored into the bank, and the arrays keeping their length. -/

namespace Sys2Proof.Machine

variable (b : Bank)

theorem Bank.get_set_same (f : Scalar) (v : Word) : (b.set f v).get f = v := by
  cases f <;> rfl

theorem Bank.get_set_other {f g : Scalar} (v : Word) (h : g ≠ f) : (b.set f v).get g = b.get g := by
  cases f <;> cases g <;> first | rfl | exact absurd rfl h

@[simp] theorem Bank.array_set (f : Scalar) (v : Word) (a : TrapReg) : (b.set f v).array a = b.array a := by
  cases f <;> cases a <;> rfl

@[simp] theorem Bank.scratch_set (f : Scalar) (v : Word) : (b.set f v).scratch = b.scratch := by
  cases f <;> rfl

@[simp] theorem Bank.element_set (f : Scalar) (v : Word) (a : TrapReg) (i : Nat) :
    (b.set f v).element a i = b.element a i := by
  simp [Bank.element]

@[simp] theorem Bank.slot_set (f : Scalar) (v : Word) (n : Fin 8) : (b.set f v).slot n = b.slot n := by
  simp [Bank.slot]

theorem Bank.array_setArray_same (a : TrapReg) (ws : List Word) : (b.setArray a ws).array a = ws := by
  cases a <;> rfl

theorem Bank.array_setArray_other {a c : TrapReg} (ws : List Word) (h : c ≠ a) :
    (b.setArray a ws).array c = b.array c := by
  cases a <;> cases c <;> first | rfl | exact absurd rfl h

@[simp] theorem Bank.get_setArray (a : TrapReg) (ws : List Word) (f : Scalar) :
    (b.setArray a ws).get f = b.get f := by
  cases a <;> cases f <;> rfl

@[simp] theorem Bank.scratch_setArray (a : TrapReg) (ws : List Word) :
    (b.setArray a ws).scratch = b.scratch := by
  cases a <;> rfl

@[simp] theorem Bank.get_setElement (a : TrapReg) (i : Nat) (v : Word) (f : Scalar) :
    (b.setElement a i v).get f = b.get f := by
  simp [Bank.setElement]

/-- An element that exists reads back what was stored into it (R103). -/
theorem Bank.element_setElement_same {a : TrapReg} {i : Nat} (v : Word) (h : i < (b.array a).length) :
    (b.setElement a i v).element a i = v := by
  simp [Bank.element, Bank.setElement, Bank.array_setArray_same, List.getD_eq_getElem?_getD, h]

/-- Elements at different trap levels never alias (R23). -/
theorem Bank.element_setElement_level {a : TrapReg} {i j : Nat} (v : Word) (h : j ≠ i) :
    (b.setElement a i v).element a j = b.element a j := by
  simp [Bank.element, Bank.setElement, Bank.array_setArray_same, List.getD_eq_getElem?_getD,
    List.getElem?_set_ne (Ne.symm h)]

/-- A write to one array changes no other array (R23). -/
theorem Bank.element_setElement_array {a c : TrapReg} {i j : Nat} (v : Word) (h : c ≠ a) :
    (b.setElement a i v).element c j = b.element c j := by
  simp [Bank.element, Bank.setElement, Bank.array_setArray_other b _ h]

@[simp] theorem Bank.get_setSlot (n : Fin 8) (v : Word) (f : Scalar) : (b.setSlot n v).get f = b.get f := by
  cases f <;> rfl

@[simp] theorem Bank.array_setSlot (n : Fin 8) (v : Word) (a : TrapReg) :
    (b.setSlot n v).array a = b.array a := by
  cases a <;> rfl

/-- Each identifier writes its own slot (R24). -/
theorem Bank.slot_setSlot_same (n : Fin 8) (v : Word) : (b.setSlot n v).slot n = v := by
  simp [Bank.slot, Bank.setSlot]

/-- A write to one slot changes no other slot (R24). -/
theorem Bank.slot_setSlot_other {n m : Fin 8} (v : Word) (h : m ≠ n) : (b.setSlot n v).slot m = b.slot m := by
  have : n.val ≠ m.val := fun e => h (Fin.ext e.symm)
  simp [Bank.slot, Bank.setSlot, this]

/-- The invariant of the arrays, said of each array. -/
theorem Bank.wf_iff {n : Nat} : b.wf n = true ↔ ∀ a, (b.array a).length = n := by
  constructor
  · intro h a
    simp only [Bank.wf, Bool.and_eq_true, beq_iff_eq] at h
    obtain ⟨⟨⟨⟨h1, h2⟩, h3⟩, h4⟩, h5⟩ := h
    cases a <;> assumption
  · intro h
    have h1 := h .tpc
    have h2 := h .tnpc
    have h3 := h .tstate
    have h4 := h .tt
    have h5 := h .htstate
    simp only [Bank.array] at h1 h2 h3 h4 h5
    simp [Bank.wf, h1, h2, h3, h4, h5]

variable {n : Nat}

theorem Bank.set_wf (f : Scalar) (v : Word) (h : b.wf n = true) : (b.set f v).wf n = true :=
  (Bank.wf_iff _).2 fun a => by rw [Bank.array_set]; exact (Bank.wf_iff b).1 h a

theorem Bank.setSlot_wf (m : Fin 8) (v : Word) (h : b.wf n = true) : (b.setSlot m v).wf n = true :=
  (Bank.wf_iff _).2 fun a => by rw [Bank.array_setSlot]; exact (Bank.wf_iff b).1 h a

theorem Bank.setElement_wf (c : TrapReg) (i : Nat) (v : Word) (h : b.wf n = true) :
    (b.setElement c i v).wf n = true := by
  refine (Bank.wf_iff _).2 fun a => ?_
  by_cases e : a = c
  · subst e
    simp [Bank.setElement, Bank.array_setArray_same, (Bank.wf_iff b).1 h a]
  · simp [Bank.setElement, Bank.array_setArray_other b _ e, (Bank.wf_iff b).1 h a]

theorem Bank.reset_wf (c : Config) : (Bank.reset c).wf c.maxTL = true := by
  simp [Bank.wf, Bank.reset]

/-- A SAVE image has `SAVE_LEN` words (R201). -/
theorem Bank.image_length (h : b.wf n = true) : b.image.length = 5 * n + 44 := by
  have := (Bank.wf_iff b).1 h
  have h1 := this .tpc
  have h2 := this .tnpc
  have h3 := this .tstate
  have h4 := this .tt
  have h5 := this .htstate
  simp only [Bank.array] at h1 h2 h3 h4 h5
  simp only [Bank.image, List.length_append, List.length_cons, List.length_nil, Vector.length_toList, h1, h2, h3, h4, h5]
  omega

/-- RESTORE of an image of `SAVE_LEN` words leaves arrays of `MAXTL` elements (R203). -/
theorem Bank.ofImage_wf {img : List Word} (h : img.length = 5 * n + 44) : (Bank.ofImage n img).wf n = true := by
  simp [Bank.wf, Bank.ofImage, h]
  omega

end Sys2Proof.Machine
end

