-- ==== Sys2Proof/Laws/State.lean ====
section
/-! SUPPORT. One lemma per field per update of the state, so that no later proof unfolds a record update. -/

namespace Sys2Proof.Machine

variable (s : State)

section answer

@[simp] theorem State.answer_cfg (d : RespData) : (s.answer d).cfg = s.cfg := rfl
@[simp] theorem State.answer_bank (d : RespData) : (s.answer d).bank = s.bank := rfl
@[simp] theorem State.answer_events (d : RespData) : (s.answer d).events = s.events := rfl
@[simp] theorem State.answer_fault (d : RespData) : (s.answer d).fault = s.fault := rfl
@[simp] theorem State.answer_resp (d : RespData) : (s.answer d).resp = .ok d := rfl
@[simp] theorem State.answer_strobes (d : RespData) : (s.answer d).strobes = s.strobes := rfl
@[simp] theorem State.answer_port (d : RespData) : (s.answer d).port = s.port := rfl
@[simp] theorem State.answer_pending (d : RespData) : (s.answer d).pending = s.pending := rfl

end answer

section raise

@[simp] theorem State.raise_cfg (e : Err) (w : CmdWord) : (s.raise e w).cfg = s.cfg := rfl
@[simp] theorem State.raise_bank (e : Err) (w : CmdWord) : (s.raise e w).bank = s.bank := rfl
@[simp] theorem State.raise_events (e : Err) (w : CmdWord) : (s.raise e w).events = s.events := rfl
@[simp] theorem State.raise_fault (e : Err) (w : CmdWord) : (s.raise e w).fault = s.fault.or (some { err := e, cmd := w }) := rfl
@[simp] theorem State.raise_resp (e : Err) (w : CmdWord) : (s.raise e w).resp = .error e := rfl
@[simp] theorem State.raise_strobes (e : Err) (w : CmdWord) : (s.raise e w).strobes = s.strobes := rfl
@[simp] theorem State.raise_port (e : Err) (w : CmdWord) : (s.raise e w).port = s.port := rfl
@[simp] theorem State.raise_pending (e : Err) (w : CmdWord) : (s.raise e w).pending = s.pending := rfl

end raise

section emit

@[simp] theorem State.emit_cfg (b : Strobe) : (s.emit b).cfg = s.cfg := rfl
@[simp] theorem State.emit_bank (b : Strobe) : (s.emit b).bank = s.bank := rfl
@[simp] theorem State.emit_events (b : Strobe) : (s.emit b).events = s.events := rfl
@[simp] theorem State.emit_fault (b : Strobe) : (s.emit b).fault = s.fault := rfl
@[simp] theorem State.emit_resp (b : Strobe) : (s.emit b).resp = s.resp := rfl
@[simp] theorem State.emit_strobes (b : Strobe) : (s.emit b).strobes = s.strobes ++ [b] := rfl
@[simp] theorem State.emit_port (b : Strobe) : (s.emit b).port = s.port := rfl
@[simp] theorem State.emit_pending (b : Strobe) : (s.emit b).pending = s.pending := rfl

end emit

section setEvent

@[simp] theorem State.setEvent_cfg (k : Timer) (e : TimerEvent) : (s.setEvent k e).cfg = s.cfg := rfl
@[simp] theorem State.setEvent_bank (k : Timer) (e : TimerEvent) : (s.setEvent k e).bank = s.bank := rfl
@[simp] theorem State.setEvent_events (k : Timer) (e : TimerEvent) : (s.setEvent k e).events = s.events.set k e := rfl
@[simp] theorem State.setEvent_fault (k : Timer) (e : TimerEvent) : (s.setEvent k e).fault = s.fault := rfl
@[simp] theorem State.setEvent_resp (k : Timer) (e : TimerEvent) : (s.setEvent k e).resp = s.resp := rfl
@[simp] theorem State.setEvent_strobes (k : Timer) (e : TimerEvent) : (s.setEvent k e).strobes = s.strobes := rfl
@[simp] theorem State.setEvent_port (k : Timer) (e : TimerEvent) : (s.setEvent k e).port = s.port := rfl
@[simp] theorem State.setEvent_pending (k : Timer) (e : TimerEvent) : (s.setEvent k e).pending = s.pending := rfl

end setEvent

section storeScalar

@[simp] theorem storeScalar_cfg (f : Scalar) (v : Word) : (storeScalar f v s).cfg = s.cfg := rfl
@[simp] theorem storeScalar_bank (f : Scalar) (v : Word) : (storeScalar f v s).bank = s.bank.set f (storedValue s.cfg f v) := rfl
@[simp] theorem storeScalar_events (f : Scalar) (v : Word) : (storeScalar f v s).events = s.events := rfl
@[simp] theorem storeScalar_fault (f : Scalar) (v : Word) : (storeScalar f v s).fault = s.fault := rfl
@[simp] theorem storeScalar_resp (f : Scalar) (v : Word) : (storeScalar f v s).resp = s.resp := rfl
@[simp] theorem storeScalar_strobes (f : Scalar) (v : Word) : (storeScalar f v s).strobes = s.strobes := rfl
@[simp] theorem storeScalar_port (f : Scalar) (v : Word) : (storeScalar f v s).port = s.port := rfl
@[simp] theorem storeScalar_pending (f : Scalar) (v : Word) : (storeScalar f v s).pending = s.pending := rfl

end storeScalar

section storeSoftintSet

@[simp] theorem storeSoftintSet_cfg (v : Word) : (storeSoftintSet v s).cfg = s.cfg := rfl
@[simp] theorem storeSoftintSet_bank (v : Word) : (storeSoftintSet v s).bank = s.bank.set .softint (softintSetValue s.cfg s.bank.softint v) := rfl
@[simp] theorem storeSoftintSet_events (v : Word) : (storeSoftintSet v s).events = s.events := rfl
@[simp] theorem storeSoftintSet_fault (v : Word) : (storeSoftintSet v s).fault = s.fault := rfl
@[simp] theorem storeSoftintSet_resp (v : Word) : (storeSoftintSet v s).resp = s.resp := rfl
@[simp] theorem storeSoftintSet_strobes (v : Word) : (storeSoftintSet v s).strobes = s.strobes := rfl
@[simp] theorem storeSoftintSet_port (v : Word) : (storeSoftintSet v s).port = s.port := rfl
@[simp] theorem storeSoftintSet_pending (v : Word) : (storeSoftintSet v s).pending = s.pending := rfl

end storeSoftintSet

section storeSoftintClr

@[simp] theorem storeSoftintClr_cfg (v : Word) : (storeSoftintClr v s).cfg = s.cfg := rfl
@[simp] theorem storeSoftintClr_bank (v : Word) : (storeSoftintClr v s).bank = s.bank.set .softint (softintClrValue s.cfg s.bank.softint v) := rfl
@[simp] theorem storeSoftintClr_events (v : Word) : (storeSoftintClr v s).events = s.events := rfl
@[simp] theorem storeSoftintClr_fault (v : Word) : (storeSoftintClr v s).fault = s.fault := rfl
@[simp] theorem storeSoftintClr_resp (v : Word) : (storeSoftintClr v s).resp = s.resp := rfl
@[simp] theorem storeSoftintClr_strobes (v : Word) : (storeSoftintClr v s).strobes = s.strobes := rfl
@[simp] theorem storeSoftintClr_port (v : Word) : (storeSoftintClr v s).port = s.port := rfl
@[simp] theorem storeSoftintClr_pending (v : Word) : (storeSoftintClr v s).pending = s.pending := rfl

end storeSoftintClr

section allocate

@[simp] theorem allocate_cfg (k : Timer) : (allocate k s).cfg = s.cfg := rfl
@[simp] theorem allocate_bank (k : Timer) : (allocate k s).bank = s.bank := rfl
@[simp] theorem allocate_events (k : Timer) : (allocate k s).events = s.events.set k { s.events.get k with alloc := true } := rfl
@[simp] theorem allocate_fault (k : Timer) : (allocate k s).fault = s.fault := rfl
@[simp] theorem allocate_resp (k : Timer) : (allocate k s).resp = s.resp := rfl
@[simp] theorem allocate_strobes (k : Timer) : (allocate k s).strobes = s.strobes := rfl
@[simp] theorem allocate_port (k : Timer) : (allocate k s).port = s.port := rfl
@[simp] theorem allocate_pending (k : Timer) : (allocate k s).pending = s.pending := rfl

end allocate

section disarm

@[simp] theorem disarm_cfg (k : Timer) : (disarm k s).cfg = s.cfg := rfl
@[simp] theorem disarm_bank (k : Timer) : (disarm k s).bank = s.bank := rfl
@[simp] theorem disarm_events (k : Timer) : (disarm k s).events = s.events.set k { s.events.get k with armed := false, delay := 0 } := rfl
@[simp] theorem disarm_fault (k : Timer) : (disarm k s).fault = s.fault := rfl
@[simp] theorem disarm_resp (k : Timer) : (disarm k s).resp = s.resp := rfl
@[simp] theorem disarm_strobes (k : Timer) : (disarm k s).strobes = s.strobes := rfl
@[simp] theorem disarm_port (k : Timer) : (disarm k s).port = s.port := rfl
@[simp] theorem disarm_pending (k : Timer) : (disarm k s).pending = s.pending := rfl

end disarm

section schedule

@[simp] theorem schedule_cfg (k : Timer) (d : Int) : (schedule k d s).cfg = s.cfg := rfl
@[simp] theorem schedule_bank (k : Timer) (d : Int) : (schedule k d s).bank = s.bank := rfl
@[simp] theorem schedule_events (k : Timer) (d : Int) : (schedule k d s).events = s.events.set k { s.events.get k with armed := true, delay := d } := rfl
@[simp] theorem schedule_fault (k : Timer) (d : Int) : (schedule k d s).fault = s.fault := rfl
@[simp] theorem schedule_resp (k : Timer) (d : Int) : (schedule k d s).resp = s.resp := rfl
@[simp] theorem schedule_strobes (k : Timer) (d : Int) : (schedule k d s).strobes = s.strobes ++ [.sched k d] := rfl
@[simp] theorem schedule_port (k : Timer) (d : Int) : (schedule k d s).port = s.port := rfl
@[simp] theorem schedule_pending (k : Timer) (d : Int) : (schedule k d s).pending = s.pending := rfl

end schedule

section present

@[simp] theorem State.present_cfg (r : Request) (rest : List Request) : (s.present r rest).cfg = s.cfg := rfl
@[simp] theorem State.present_bank (r : Request) (rest : List Request) : (s.present r rest).bank = s.bank := rfl
@[simp] theorem State.present_events (r : Request) (rest : List Request) : (s.present r rest).events = s.events := rfl
@[simp] theorem State.present_fault (r : Request) (rest : List Request) : (s.present r rest).fault = s.fault := rfl
@[simp] theorem State.present_resp (r : Request) (rest : List Request) : (s.present r rest).resp = s.resp := rfl
@[simp] theorem State.present_strobes (r : Request) (rest : List Request) : (s.present r rest).strobes = [] := rfl
@[simp] theorem State.present_port (r : Request) (rest : List Request) : (s.present r rest).port = r := rfl
@[simp] theorem State.present_pending (r : Request) (rest : List Request) : (s.present r rest).pending = rest := rfl

end present

section idle

@[simp] theorem State.idle_cfg : s.idle.cfg = s.cfg := rfl
@[simp] theorem State.idle_bank : s.idle.bank = s.bank := rfl
@[simp] theorem State.idle_events : s.idle.events = s.events := rfl
@[simp] theorem State.idle_fault : s.idle.fault = s.fault := rfl
@[simp] theorem State.idle_resp : s.idle.resp = s.resp := rfl
@[simp] theorem State.idle_strobes : s.idle.strobes = [] := rfl
@[simp] theorem State.idle_port : s.idle.port = s.port := rfl
@[simp] theorem State.idle_pending : s.idle.pending = s.pending := rfl

end idle

section rejectWord

@[simp] theorem rejectWord_cfg (e : Reject) : (rejectWord e s).cfg = s.cfg := rfl
@[simp] theorem rejectWord_bank (e : Reject) : (rejectWord e s).bank = s.bank := rfl
@[simp] theorem rejectWord_events (e : Reject) : (rejectWord e s).events = s.events := rfl
@[simp] theorem rejectWord_fault (e : Reject) : (rejectWord e s).fault = s.fault.or (some { err := .illegalCommand s.port.cmd, cmd := s.port.cmd }) := rfl
@[simp] theorem rejectWord_resp (e : Reject) : (rejectWord e s).resp = .error (.illegalCommand s.port.cmd) := rfl
@[simp] theorem rejectWord_strobes (e : Reject) : (rejectWord e s).strobes = s.strobes := rfl
@[simp] theorem rejectWord_port (e : Reject) : (rejectWord e s).port = s.port := rfl
@[simp] theorem rejectWord_pending (e : Reject) : (rejectWord e s).pending = s.pending := rfl

end rejectWord

section withFetchWord

@[simp] theorem State.withFetchWord_cfg (n w : Nat) : (s.withFetchWord n w).cfg = s.cfg := rfl
@[simp] theorem State.withFetchWord_bank (n w : Nat) : (s.withFetchWord n w).bank = s.bank := rfl
@[simp] theorem State.withFetchWord_events (n w : Nat) : (s.withFetchWord n w).events = s.events := rfl
@[simp] theorem State.withFetchWord_fault (n w : Nat) : (s.withFetchWord n w).fault = s.fault := rfl
@[simp] theorem State.withFetchWord_resp (n w : Nat) : (s.withFetchWord n w).resp = s.resp := rfl
@[simp] theorem State.withFetchWord_strobes (n w : Nat) : (s.withFetchWord n w).strobes = s.strobes := rfl
@[simp] theorem State.withFetchWord_port (n w : Nat) : (s.withFetchWord n w).port = s.port := rfl
@[simp] theorem State.withFetchWord_pending (n w : Nat) : (s.withFetchWord n w).pending = tableRequest n w :: s.pending := rfl

end withFetchWord

end Sys2Proof.Machine
end

