-- ==== Sys2Proof/Laws/Ops.lean ====
section
/-! SUPPORT. What each shared operation can do, said once: the provers cite these instead of unfolding it. -/

namespace Sys2Proof.Machine

variable {s t : State}

/-- A trap level that passes the check is `S.tl` and lies in 1 to MAXTL (R23). -/
theorem tlCheck_ok {n : Nat} (h : tlCheck s = .ok n) :
    n = s.bank.tl.toNat ∧ 1 ≤ s.bank.tl.toNat ∧ s.bank.tl.toNat ≤ s.cfg.maxTL := by
  unfold tlCheck at h
  split at h
  · next hr => exact ⟨by cases h; rfl, hr⟩
  · cases h

/-- The check passes in range (R23). -/
theorem tlCheck_of_range (h : 1 ≤ s.bank.tl.toNat ∧ s.bank.tl.toNat ≤ s.cfg.maxTL) :
    tlCheck s = .ok s.bank.tl.toNat := by
  simp [tlCheck, h]

/-- The check fails out of range, with the value of `S.tl` (R226). -/
theorem tlCheck_of_not_range (h : ¬(1 ≤ s.bank.tl.toNat ∧ s.bank.tl.toNat ≤ s.cfg.maxTL)) :
    tlCheck s = .error (.invalidTrapLevel s.bank.tl) := by
  simp only [tlCheck, if_neg h]

/-- The only error of the check (R226). -/
theorem tlCheck_error {e : Err} (h : tlCheck s = .error e) :
    e = .invalidTrapLevel s.bank.tl ∧ ¬(1 ≤ s.bank.tl.toNat ∧ s.bank.tl.toNat ≤ s.cfg.maxTL) := by
  unfold tlCheck at h
  split at h
  · cases h
  · next hr => exact ⟨by cases h; rfl, hr⟩

/-- Every error of a plain read, with its cause (R224 to R226). -/
theorem readPlain_error {id : RegId} {e : Err} (h : readPlain id s = .error e) :
    (target id = none ∧ e = .unknownRegister id) ∨
    ((target id = some .softintSet ∨ target id = some .softintClr ∨ target id = some .noStorage) ∧
      e = .notImplemented (.register id)) ∨
    ((∃ a, target id = some (.trap a)) ∧ tlCheck s = .error e) := by
  unfold readPlain at h
  split at h
  · next ht => exact .inl ⟨ht, by cases h; rfl⟩
  · cases h
  · next a ht =>
    refine .inr (.inr ⟨⟨a, ht⟩, ?_⟩)
    unfold readTrap at h
    split at h
    · cases h
    · next hc => cases h; exact hc
  · cases h
  · next ht => exact .inr (.inl ⟨.inl ht, by cases h; rfl⟩)
  · next ht => exact .inr (.inl ⟨.inr (.inl ht), by cases h; rfl⟩)
  · next ht => exact .inr (.inl ⟨.inr (.inr ht), by cases h; rfl⟩)

/-- Every error of a plain write, with its cause (R224 to R226). -/
theorem writePlain_error {id : RegId} {v : Word} {e : Err} (h : writePlain id v s = .error e) :
    (target id = none ∧ e = .unknownRegister id) ∨
    (target id = some .noStorage ∧ e = .notImplemented (.register id)) ∨
    ((∃ a, target id = some (.trap a)) ∧ tlCheck s = .error e) := by
  unfold writePlain at h
  split at h
  · next ht => exact .inl ⟨ht, by cases h; rfl⟩
  · cases h
  · next a ht =>
    refine .inr (.inr ⟨⟨a, ht⟩, ?_⟩)
    unfold writeTrap at h
    split at h
    · cases h
    · next hc => cases h; exact hc
  · cases h
  · cases h
  · cases h
  · next ht => exact .inr (.inl ⟨ht, by cases h; rfl⟩)

/-- A per-trap-level write that succeeds changes the bank alone and keeps the arrays' length (R103). -/
theorem writeTrap_ok {a : TrapReg} {v : Word} (h : writeTrap a v s = .ok t) :
    t = { s with bank := s.bank.setElement a (s.bank.tl.toNat - 1) v } := by
  unfold writeTrap at h
  split at h
  · next n hc =>
    obtain ⟨rfl, -⟩ := tlCheck_ok hc
    cases h; rfl
  · cases h

/-- A plain write that succeeds changes the bank alone, and keeps the arrays' length (R102 to R105, R108). -/
theorem writePlain_ok {id : RegId} {v : Word} (h : writePlain id v s = .ok t) :
    t = { s with bank := t.bank } ∧ (∀ n, s.bank.wf n = true → t.bank.wf n = true) := by
  unfold writePlain at h
  split at h
  · cases h
  · cases h; exact ⟨rfl, fun n hw => Bank.set_wf _ _ _ hw⟩
  · rw [writeTrap_ok h]; exact ⟨rfl, fun n hw => Bank.setElement_wf _ _ _ _ hw⟩
  · cases h; exact ⟨rfl, fun n hw => Bank.setSlot_wf _ _ _ hw⟩
  · cases h; exact ⟨rfl, fun n hw => Bank.set_wf _ _ _ hw⟩
  · cases h; exact ⟨rfl, fun n hw => Bank.set_wf _ _ _ hw⟩
  · cases h

@[simp] theorem Events.get_set_same (es : Events) (k : Timer) (e : TimerEvent) : (es.set k e).get k = e := by
  cases k <;> rfl

/-- The events are independent (R33). -/
theorem Events.get_set_other (es : Events) {k j : Timer} (e : TimerEvent) (h : j ≠ k) :
    (es.set k e).get j = es.get j := by
  cases k <;> cases j <;> first | rfl | exact absurd rfl h

/-- A deschedule leaves the event Unarmed with delay 0, or finds it Unarmed and does nothing (R84). -/
theorem deschedule_cases (k : Timer) (s : State) :
    ((s.events.get k).armed = true ∧ deschedule k s = (disarm k s).emit (.desched k)) ∨
    ((s.events.get k).armed = false ∧ deschedule k s = s) := by
  unfold deschedule
  cases h : (s.events.get k).armed <;> simp

/-- A deschedule changes nothing but the events and the strobes. -/
theorem deschedule_frame (k : Timer) (s : State) :
    deschedule k s = { s with events := (deschedule k s).events, strobes := (deschedule k s).strobes } := by
  rcases deschedule_cases k s with ⟨-, h⟩ | ⟨-, h⟩
  · rw [h]; rfl
  · rw [h]

/-- After a deschedule the event is Unarmed (R170, R260). -/
theorem deschedule_unarmed (k : Timer) (s : State) : ((deschedule k s).events.get k).armed = false := by
  rcases deschedule_cases k s with ⟨-, h⟩ | ⟨ha, h⟩ <;> rw [h]
  · simp
  · exact ha

/-- A deschedule of one event changes no other (R33). -/
theorem deschedule_other {k j : Timer} (s : State) (h : j ≠ k) :
    (deschedule k s).events.get j = s.events.get j := by
  rcases deschedule_cases k s with ⟨-, e⟩ | ⟨-, e⟩ <;> rw [e]
  simp [Events.get_set_other _ _ h]

/-- Everything FIRE can do (R180). -/
theorem fire_cases (k : Timer) (w : CmdWord) (s : State) :
    ((s.events.get k).armed = false ∧ fire k w s = s.raise (.illegalCommand w) w) ∨
    ((s.events.get k).armed = true ∧ s.cfg.trapDeliverySupplied = true ∧
      fire k w s = ((disarm k s).emit (.trapReq k)).answer .none) ∨
    ((s.events.get k).armed = true ∧ s.cfg.trapDeliverySupplied = false ∧
      fire k w s = (disarm k s).raise (.notImplemented (.fireBody k)) w) := by
  unfold fire
  cases (s.events.get k).armed <;> cases s.cfg.trapDeliverySupplied <;> simp

/-- The positive delta of an arming write is at most `2^63 - 1` (R170). -/
theorem compareDelta_le (k : Timer) (v : Word) (s : State) : compareDelta k v s ≤ 2 ^ 63 - 1 := by
  have h : (cmpField v).toNat ≤ M63.toNat := by
    simp only [cmpField, BitVec.toNat_and]
    exact Nat.and_le_right
  have hm : M63.toNat = 2 ^ 63 - 1 := rfl
  unfold compareDelta
  omega

/-- A compare write changes nothing but its register, its event and the strobes (R33, R170). -/
theorem compareWrite_frame (k : Timer) (v : Word) (s : State) :
    compareWrite k v s =
      { s with
        bank := s.bank.set (cmprOf k) v
        events := (compareWrite k v s).events
        strobes := (compareWrite k v s).strobes } := by
  have hs : storedValue s.cfg (cmprOf k) v = v := by cases k <;> rfl
  have hb : (storeScalar (cmprOf k) v (allocate k s)) =
      { s with bank := s.bank.set (cmprOf k) v, events := (allocate k s).events } := by
    simp [storeScalar, hs, allocate, State.setEvent]
  unfold compareWrite
  simp only [hb]
  rcases deschedule_cases k { s with bank := s.bank.set (cmprOf k) v, events := (allocate k s).events } with
    ⟨-, h⟩ | ⟨-, h⟩
  · rw [h]; split <;> split <;> rfl
  · rw [h]; split <;> split <;> rfl

/-- A compare write changes no other event (R33). -/
theorem compareWrite_other {k j : Timer} (v : Word) (s : State) (h : j ≠ k) :
    (compareWrite k v s).events.get j = s.events.get j := by
  unfold compareWrite
  simp only
  split <;> split <;>
    simp [schedule, deschedule_other, Events.get_set_other _ _ h, h]

/-- The word of eight bytes, most significant first, is the word they came from (R206). -/
theorem bytesWord_of_wordBytes (w : Word) :
    bytesWord (w.extractLsb' 56 8) (w.extractLsb' 48 8) (w.extractLsb' 40 8) (w.extractLsb' 32 8)
      (w.extractLsb' 24 8) (w.extractLsb' 16 8) (w.extractLsb' 8 8) (w.extractLsb' 0 8) = w := by
  apply BitVec.eq_of_getLsbD_eq
  intro i hi
  simp only [bytesWord, BitVec.getLsbD_append, BitVec.getLsbD_extractLsb']
  interval_cases i <;> simp

end Sys2Proof.Machine
end

