-- ==== Sys2Proof/Laws/PerInstr.lean ====
section
/-! SUPPORT. The family OpField, one lemma per constructor: the word of a command carries the OP and RSVD fields that
30_encoding.md R81 and R85 give its row. -/

namespace Sys2Proof.Laws

/-- The OP field of a command: the column "OP" of R85. -/
def OpField.code (i : Instr) : BitVec 4 :=
  match i with
  | .rdp _ => 0x0
  | .rdpTpc => 0x0
  | .rdpTnpc => 0x0
  | .rdpTstate => 0x0
  | .rdpTt => 0x0
  | .rdpHtstate => 0x0
  | .rdpTick => 0x0
  | .rdpPrivtick => 0x0
  | .rdpPcr => 0x0
  | .rdpPic => 0x0
  | .rdpHintp => 0x0
  | .rdpHver => 0x0
  | .rdpSoftintSet => 0x0
  | .rdpSoftintClr => 0x0
  | .wrp _ => 0x1
  | .wrpTpc => 0x1
  | .wrpTnpc => 0x1
  | .wrpTstate => 0x1
  | .wrpTt => 0x1
  | .wrpHtstate => 0x1
  | .wrpTba => 0x1
  | .wrpPstate => 0x1
  | .wrpTick => 0x1
  | .wrpPrivtick => 0x1
  | .wrpPcr => 0x1
  | .wrpPic => 0x1
  | .wrpHintp => 0x1
  | .wrpHver => 0x1
  | .wrpSoftintSet => 0x1
  | .wrpSoftintClr => 0x1
  | .rde _ => 0x2
  | .rdeTick => 0x2
  | .rdePrivtick => 0x2
  | .rdeHver => 0x2
  | .rdeFprs => 0x2
  | .rdeFsr => 0x2
  | .rdePcr => 0x2
  | .rdePic => 0x2
  | .rdeHintp => 0x2
  | .rdeSoftintSet => 0x2
  | .rdeSoftintClr => 0x2
  | .rdeStick => 0x2
  | .wre _ => 0x3
  | .wreTick => 0x3
  | .wrePrivtick => 0x3
  | .wreTickCmpr => 0x3
  | .wreStickCmpr => 0x3
  | .wreHstickCmpr => 0x3
  | .wrePstate => 0x3
  | .wreTl => 0x3
  | .wreCwp => 0x3
  | .wreGl => 0x3
  | .wreSoftintSet => 0x3
  | .wreSoftintClr => 0x3
  | .wreSoftint => 0x3
  | .wrePcr => 0x3
  | .wrePic => 0x3
  | .wreHintp => 0x3
  | .wreHver => 0x3
  | .wreStick => 0x3
  | .name _ => 0x4
  | .reset => 0x5
  | .save => 0x6
  | .restore => 0x7
  | .fireTick => 0x8
  | .fireStick => 0x8
  | .fireHstick => 0x8
  | .isschedTick => 0x9
  | .isschedStick => 0x9
  | .isschedHstick => 0x9
  | .reservedOpa _ => 0xA
  | .reservedOpb _ => 0xB
  | .reservedOpc _ => 0xC
  | .reservedOpd _ => 0xD
  | .reservedOpe _ => 0xE
  | .reservedOpf _ => 0xF
  | .reservedRsvd op _ _ => op

/-- The RSVD field of a command: 0 but for the row RESERVED.RSVD (R81, R87 (b)). -/
def OpField.rsvd (i : Instr) : BitVec 4 :=
  match i with
  | .reservedRsvd _ rsvd _ => rsvd
  | _ => 0

/-- The word of `i` has the OP and RSVD fields of its row. -/
def OpField.Statement (i : Instr) : Prop :=
  opField (encode i) = OpField.code i ∧ rsvdField (encode i) = OpField.rsvd i

/-- The fields of a word are what the word was made of (R81). -/
theorem fields_cmdWord (op rsvd : BitVec 4) (id : RegId) :
    opField (cmdWord op rsvd id) = op ∧ rsvdField (cmdWord op rsvd id) = rsvd ∧
      idField (cmdWord op rsvd id) = id := by
  refine ⟨?_, ?_, ?_⟩ <;>
  · apply BitVec.eq_of_getLsbD_eq
    intro i hi
    simp only [opField, rsvdField, idField, cmdWord, BitVec.getLsbD_extractLsb', BitVec.getLsbD_append]
    interval_cases i <;> simp

theorem OpField.rdp (id : RegId) : OpField.Statement (.rdp id) :=
  ⟨(fields_cmdWord _ _ _).1, (fields_cmdWord _ _ _).2.1⟩

theorem OpField.rdpTpc : OpField.Statement .rdpTpc := ⟨rfl, rfl⟩

theorem OpField.rdpTnpc : OpField.Statement .rdpTnpc := ⟨rfl, rfl⟩

theorem OpField.rdpTstate : OpField.Statement .rdpTstate := ⟨rfl, rfl⟩

theorem OpField.rdpTt : OpField.Statement .rdpTt := ⟨rfl, rfl⟩

theorem OpField.rdpHtstate : OpField.Statement .rdpHtstate := ⟨rfl, rfl⟩

theorem OpField.rdpTick : OpField.Statement .rdpTick := ⟨rfl, rfl⟩

theorem OpField.rdpPrivtick : OpField.Statement .rdpPrivtick := ⟨rfl, rfl⟩

theorem OpField.rdpPcr : OpField.Statement .rdpPcr := ⟨rfl, rfl⟩

theorem OpField.rdpPic : OpField.Statement .rdpPic := ⟨rfl, rfl⟩

theorem OpField.rdpHintp : OpField.Statement .rdpHintp := ⟨rfl, rfl⟩

theorem OpField.rdpHver : OpField.Statement .rdpHver := ⟨rfl, rfl⟩

theorem OpField.rdpSoftintSet : OpField.Statement .rdpSoftintSet := ⟨rfl, rfl⟩

theorem OpField.rdpSoftintClr : OpField.Statement .rdpSoftintClr := ⟨rfl, rfl⟩

theorem OpField.wrp (id : RegId) : OpField.Statement (.wrp id) :=
  ⟨(fields_cmdWord _ _ _).1, (fields_cmdWord _ _ _).2.1⟩

theorem OpField.wrpTpc : OpField.Statement .wrpTpc := ⟨rfl, rfl⟩

theorem OpField.wrpTnpc : OpField.Statement .wrpTnpc := ⟨rfl, rfl⟩

theorem OpField.wrpTstate : OpField.Statement .wrpTstate := ⟨rfl, rfl⟩

theorem OpField.wrpTt : OpField.Statement .wrpTt := ⟨rfl, rfl⟩

theorem OpField.wrpHtstate : OpField.Statement .wrpHtstate := ⟨rfl, rfl⟩

theorem OpField.wrpTba : OpField.Statement .wrpTba := ⟨rfl, rfl⟩

theorem OpField.wrpPstate : OpField.Statement .wrpPstate := ⟨rfl, rfl⟩

theorem OpField.wrpTick : OpField.Statement .wrpTick := ⟨rfl, rfl⟩

theorem OpField.wrpPrivtick : OpField.Statement .wrpPrivtick := ⟨rfl, rfl⟩

theorem OpField.wrpPcr : OpField.Statement .wrpPcr := ⟨rfl, rfl⟩

theorem OpField.wrpPic : OpField.Statement .wrpPic := ⟨rfl, rfl⟩

theorem OpField.wrpHintp : OpField.Statement .wrpHintp := ⟨rfl, rfl⟩

theorem OpField.wrpHver : OpField.Statement .wrpHver := ⟨rfl, rfl⟩

theorem OpField.wrpSoftintSet : OpField.Statement .wrpSoftintSet := ⟨rfl, rfl⟩

theorem OpField.wrpSoftintClr : OpField.Statement .wrpSoftintClr := ⟨rfl, rfl⟩

theorem OpField.rde (id : RegId) : OpField.Statement (.rde id) :=
  ⟨(fields_cmdWord _ _ _).1, (fields_cmdWord _ _ _).2.1⟩

theorem OpField.rdeTick : OpField.Statement .rdeTick := ⟨rfl, rfl⟩

theorem OpField.rdePrivtick : OpField.Statement .rdePrivtick := ⟨rfl, rfl⟩

theorem OpField.rdeHver : OpField.Statement .rdeHver := ⟨rfl, rfl⟩

theorem OpField.rdeFprs : OpField.Statement .rdeFprs := ⟨rfl, rfl⟩

theorem OpField.rdeFsr : OpField.Statement .rdeFsr := ⟨rfl, rfl⟩

theorem OpField.rdePcr : OpField.Statement .rdePcr := ⟨rfl, rfl⟩

theorem OpField.rdePic : OpField.Statement .rdePic := ⟨rfl, rfl⟩

theorem OpField.rdeHintp : OpField.Statement .rdeHintp := ⟨rfl, rfl⟩

theorem OpField.rdeSoftintSet : OpField.Statement .rdeSoftintSet := ⟨rfl, rfl⟩

theorem OpField.rdeSoftintClr : OpField.Statement .rdeSoftintClr := ⟨rfl, rfl⟩

theorem OpField.rdeStick : OpField.Statement .rdeStick := ⟨rfl, rfl⟩

theorem OpField.wre (id : RegId) : OpField.Statement (.wre id) :=
  ⟨(fields_cmdWord _ _ _).1, (fields_cmdWord _ _ _).2.1⟩

theorem OpField.wreTick : OpField.Statement .wreTick := ⟨rfl, rfl⟩

theorem OpField.wrePrivtick : OpField.Statement .wrePrivtick := ⟨rfl, rfl⟩

theorem OpField.wreTickCmpr : OpField.Statement .wreTickCmpr := ⟨rfl, rfl⟩

theorem OpField.wreStickCmpr : OpField.Statement .wreStickCmpr := ⟨rfl, rfl⟩

theorem OpField.wreHstickCmpr : OpField.Statement .wreHstickCmpr := ⟨rfl, rfl⟩

theorem OpField.wrePstate : OpField.Statement .wrePstate := ⟨rfl, rfl⟩

theorem OpField.wreTl : OpField.Statement .wreTl := ⟨rfl, rfl⟩

theorem OpField.wreCwp : OpField.Statement .wreCwp := ⟨rfl, rfl⟩

theorem OpField.wreGl : OpField.Statement .wreGl := ⟨rfl, rfl⟩

theorem OpField.wreSoftintSet : OpField.Statement .wreSoftintSet := ⟨rfl, rfl⟩

theorem OpField.wreSoftintClr : OpField.Statement .wreSoftintClr := ⟨rfl, rfl⟩

theorem OpField.wreSoftint : OpField.Statement .wreSoftint := ⟨rfl, rfl⟩

theorem OpField.wrePcr : OpField.Statement .wrePcr := ⟨rfl, rfl⟩

theorem OpField.wrePic : OpField.Statement .wrePic := ⟨rfl, rfl⟩

theorem OpField.wreHintp : OpField.Statement .wreHintp := ⟨rfl, rfl⟩

theorem OpField.wreHver : OpField.Statement .wreHver := ⟨rfl, rfl⟩

theorem OpField.wreStick : OpField.Statement .wreStick := ⟨rfl, rfl⟩

theorem OpField.name (id : RegId) : OpField.Statement (.name id) :=
  ⟨(fields_cmdWord _ _ _).1, (fields_cmdWord _ _ _).2.1⟩

theorem OpField.reset : OpField.Statement .reset := ⟨rfl, rfl⟩

theorem OpField.save : OpField.Statement .save := ⟨rfl, rfl⟩

theorem OpField.restore : OpField.Statement .restore := ⟨rfl, rfl⟩

theorem OpField.fireTick : OpField.Statement .fireTick := ⟨rfl, rfl⟩

theorem OpField.fireStick : OpField.Statement .fireStick := ⟨rfl, rfl⟩

theorem OpField.fireHstick : OpField.Statement .fireHstick := ⟨rfl, rfl⟩

theorem OpField.isschedTick : OpField.Statement .isschedTick := ⟨rfl, rfl⟩

theorem OpField.isschedStick : OpField.Statement .isschedStick := ⟨rfl, rfl⟩

theorem OpField.isschedHstick : OpField.Statement .isschedHstick := ⟨rfl, rfl⟩

theorem OpField.reservedOpa (id : RegId) : OpField.Statement (.reservedOpa id) :=
  ⟨(fields_cmdWord _ _ _).1, (fields_cmdWord _ _ _).2.1⟩

theorem OpField.reservedOpb (id : RegId) : OpField.Statement (.reservedOpb id) :=
  ⟨(fields_cmdWord _ _ _).1, (fields_cmdWord _ _ _).2.1⟩

theorem OpField.reservedOpc (id : RegId) : OpField.Statement (.reservedOpc id) :=
  ⟨(fields_cmdWord _ _ _).1, (fields_cmdWord _ _ _).2.1⟩

theorem OpField.reservedOpd (id : RegId) : OpField.Statement (.reservedOpd id) :=
  ⟨(fields_cmdWord _ _ _).1, (fields_cmdWord _ _ _).2.1⟩

theorem OpField.reservedOpe (id : RegId) : OpField.Statement (.reservedOpe id) :=
  ⟨(fields_cmdWord _ _ _).1, (fields_cmdWord _ _ _).2.1⟩

theorem OpField.reservedOpf (id : RegId) : OpField.Statement (.reservedOpf id) :=
  ⟨(fields_cmdWord _ _ _).1, (fields_cmdWord _ _ _).2.1⟩

theorem OpField.reservedRsvd (op rsvd : BitVec 4) (id : RegId) :
    OpField.Statement (.reservedRsvd op rsvd id) :=
  ⟨(fields_cmdWord _ _ _).1, (fields_cmdWord _ _ _).2.1⟩

end Sys2Proof.Laws
end

