-- ==== Sys2Proof/Laws/Exec.lean ====
section
/-! SUPPORT. What a command can do, said once for all of them: `exec_effect` splits every next state into six cases, and
a proof over all commands goes by those cases instead of unfolding 77 meanings. -/

namespace Sys2Proof.Machine

/-- Timer k as a command's operand: its compare write, FIRE and ISSCHED. -/
def wreOf (k : Timer) : Instr :=
  match k with
  | .tick => .wreTickCmpr
  | .stick => .wreStickCmpr
  | .hstick => .wreHstickCmpr

/-- The FIRE command of timer k. -/
def fireOf (k : Timer) : Instr :=
  match k with
  | .tick => .fireTick
  | .stick => .fireStick
  | .hstick => .fireHstick

/-- A bank that a store through the masks left: each masked register is as before or holds a masked value. -/
def MaskedStore (s : State) (b : Bank) : Prop :=
  (b.tba = s.bank.tba ∨ ∃ v, b.tba = v &&& MTBA) ∧
    (b.pstate = s.bank.pstate ∨ ∃ v, b.pstate = v &&& s.cfg.pstateMask)

/-- The notification an effectful write emits after its store (R150, R151). -/
def Notifies (i : Instr) (v : Word) (b : Strobe) : Prop :=
  (i = .wreCwp ∧ b = .ctxChange .currentWindow v) ∨ (i = .wreGl ∧ b = .ctxChange .globalSet v) ∨
    (i = .wreSoftintSet ∧ b = .softintWr 7 v) ∨ (i = .wreSoftintClr ∧ b = .softintWr 8 v) ∨
    (i = .wreSoftint ∧ b = .softintWr 9 v)

/-- Everything a command can do. -/
inductive Effect (i : Instr) (s t : State) : Prop where
  /-- it returns OK and changes nothing: a read -/
  | answered (d : RespData) (next : t = s.answer d)
  /-- it stores into the bank and does nothing else: a plain or generic effectful write, or RESTORE -/
  | stored (b : Bank) (next : t = { s with bank := b, resp := .ok .none })
      (op : opField (encode i) = 1 ∨ opField (encode i) = 3 ∨ i = .restore)
      (keeps : s.bank.wf s.cfg.maxTL = true → b.wf s.cfg.maxTL = true)
      (mask : i ≠ .restore → MaskedStore s b)
  /-- it stores into the bank and notifies a collaborator -/
  | notified (b : Bank) (x : Strobe) (next : t = { s with bank := b, resp := .ok .none, strobes := s.strobes ++ [x] })
      (who : Notifies i s.wdata x) (keeps : s.bank.wf s.cfg.maxTL = true → b.wf s.cfg.maxTL = true)
      (mask : MaskedStore s b)
  /-- it ends in an error that changes nothing -/
  | failed (e : Err) (next : t = s.raise e (encode i)) (no_fire : ∀ k, e ≠ .notImplemented (.fireBody k))
      (fits : i.wf = true → e.fits s.cfg (encode i))
  /-- it is a compare write -/
  | compared (k : Timer) (who : i = wreOf k) (next : t = (compareWrite k s.wdata s).answer .none)
  /-- it is FIRE -/
  | fired (k : Timer) (who : i = fireOf k) (next : t = fire k (encode i) s)
  /-- it is RESET -/
  | wasReset (who : i = .reset) (next : exec .reset s = .next t)

theorem target_none {id : RegId} (h : target id = none) : 56 ≤ id.toNat := by
  revert id; decide

theorem target_trap {id : RegId} (h : ∃ a, target id = some (.trap a)) : id ∈ trapIds := by
  have every : ∀ id : RegId, (match target id with
      | some (.trap _) => decide (id ∈ trapIds)
      | _ => true) = true := by decide
  obtain ⟨a, h⟩ := h
  have := every id
  rw [h] at this
  exact of_decide_eq_true this

theorem storeScalar_masked (f : Scalar) (v : Word) (s : State) : MaskedStore s (storeScalar f v s).bank := by
  cases f <;> first
    | exact ⟨.inl rfl, .inl rfl⟩
    | exact ⟨.inr ⟨_, rfl⟩, .inl rfl⟩
    | exact ⟨.inl rfl, .inr ⟨_, rfl⟩⟩

theorem setElement_masked (a : TrapReg) (j : Nat) (v : Word) (s : State) :
    MaskedStore s (s.bank.setElement a j v) := by
  cases a <;> exact ⟨.inl rfl, .inl rfl⟩

theorem writePlain_masked {id : RegId} {v : Word} {s t : State} (h : writePlain id v s = .ok t) :
    MaskedStore s t.bank := by
  unfold writePlain at h
  split at h
  · cases h
  · cases h; exact storeScalar_masked _ _ _
  · rw [writeTrap_ok h]; exact setElement_masked _ _ _ _
  · cases h; exact ⟨.inl rfl, .inl rfl⟩
  · cases h; exact ⟨.inl rfl, .inl rfl⟩
  · cases h; exact ⟨.inl rfl, .inl rfl⟩
  · cases h

theorem fields_of_generic (op : BitVec 4) (id : RegId) :
    rsvdField (cmdWord op 0 id) = 0 ∧ opField (cmdWord op 0 id) = op ∧ idField (cmdWord op 0 id) = id :=
  ⟨(Laws.fields_cmdWord op 0 id).2.1, (Laws.fields_cmdWord op 0 id).1, (Laws.fields_cmdWord op 0 id).2.2⟩

/-- A failed trap-level check fits every per-trap-level access. -/
theorem tlCheck_fits {s : State} {e : Err} {w : CmdWord} (h : tlCheck s = .error e)
    (hw : rsvdField w = 0 ∧ (opField w).toNat ≤ 3 ∧ idField w ∈ trapIds) :
    (∀ k, e ≠ .notImplemented (.fireBody k)) ∧ e.fits s.cfg w := by
  obtain ⟨rfl, hr⟩ := tlCheck_error h
  exact ⟨fun k => by simp, hw.1, hw.2.1, hw.2.2, hr⟩

variable {i : Instr} {s : State}

theorem readTrap_effect (a : TrapReg)
    (hw : rsvdField (encode i) = 0 ∧ (opField (encode i)).toNat ≤ 3 ∧ idField (encode i) ∈ trapIds) :
    Effect i s (finishRead (encode i) (readTrap a s) s) := by
  unfold readTrap
  cases hc : tlCheck s with
  | ok t => exact .answered _ rfl
  | error e => exact .failed e rfl (tlCheck_fits hc hw).1 fun _ => (tlCheck_fits hc hw).2

theorem writeTrap_effect (a : TrapReg) (v : Word)
    (hop : opField (encode i) = 1 ∨ opField (encode i) = 3 ∨ i = .restore)
    (hw : rsvdField (encode i) = 0 ∧ (opField (encode i)).toNat ≤ 3 ∧ idField (encode i) ∈ trapIds) :
    Effect i s (finishWrite (encode i) (writeTrap a v s) s) := by
  unfold writeTrap
  cases hc : tlCheck s with
  | ok t =>
    exact .stored _ rfl hop (fun hb => Bank.setElement_wf _ _ _ _ hb) fun _ => setElement_masked _ _ _ _
  | error e => exact .failed e rfl (tlCheck_fits hc hw).1 fun _ => (tlCheck_fits hc hw).2

/-- The error of a generic read fits its word when the term is well-formed (R224 to R226). -/
theorem readPlain_effect {op : BitVec 4} {id : RegId} (he : encode i = cmdWord op 0 id) (hop : op.toNat ≤ 3)
    (hni : i.wf = true → target id ≠ some .softintSet ∧ target id ≠ some .softintClr ∧
      target id ≠ some .noStorage) :
    Effect i s (finishRead (encode i) (readPlain id s) s) := by
  have hf := fields_of_generic op id
  cases hr : readPlain id s with
  | ok v => exact .answered _ rfl
  | error e =>
    rcases readPlain_error hr with ⟨ht, rfl⟩ | ⟨ht, rfl⟩ | ⟨ht, hc⟩
    · refine .failed _ rfl (by simp) fun _ => ?_
      rw [he]
      exact ⟨hf.1, by rw [hf.2.1]; omega, hf.2.2.symm, target_none ht⟩
    · refine .failed _ rfl (by simp) fun hi => ?_
      have := hni hi
      rcases ht with h | h | h
      · exact absurd h this.1
      · exact absurd h this.2.1
      · exact absurd h this.2.2
    · have hw : rsvdField (encode i) = 0 ∧ (opField (encode i)).toNat ≤ 3 ∧ idField (encode i) ∈ trapIds := by
        rw [he, hf.1, hf.2.1, hf.2.2]
        exact ⟨rfl, hop, target_trap ht⟩
      exact .failed e rfl (tlCheck_fits hc hw).1 fun _ => (tlCheck_fits hc hw).2

/-- A generic write: what it stores, or the error with its cause (R102, R224 to R226). -/
theorem writePlain_effect {op : BitVec 4} {id : RegId} (v : Word) (he : encode i = cmdWord op 0 id)
    (hop : op = 1 ∨ op = 3) (hni : i.wf = true → target id ≠ some .noStorage) :
    Effect i s (finishWrite (encode i) (writePlain id v s) s) := by
  have hf := fields_of_generic op id
  have ho : opField (encode i) = 1 ∨ opField (encode i) = 3 := by rw [he, hf.2.1]; exact hop
  have hle : (opField (encode i)).toNat ≤ 3 := by rcases ho with h | h <;> rw [h] <;> decide
  cases hr : writePlain id v s with
  | ok t =>
    refine .stored t.bank ?_ (ho.imp_right .inl) ((writePlain_ok hr).2 _) fun _ => writePlain_masked hr
    show t.answer .none = _
    rw [(writePlain_ok hr).1]
    rfl
  | error e =>
    rcases writePlain_error hr with ⟨ht, rfl⟩ | ⟨ht, rfl⟩ | ⟨ht, hc⟩
    · refine .failed _ rfl (by simp) fun _ => ⟨by rw [he, hf.1], by omega, by rw [he, hf.2.2], target_none ht⟩
    · exact .failed _ rfl (by simp) fun hi => absurd ht (hni hi)
    · have hw : rsvdField (encode i) = 0 ∧ (opField (encode i)).toNat ≤ 3 ∧ idField (encode i) ∈ trapIds :=
        ⟨by rw [he, hf.1], hle, by rw [he, hf.2.2]; exact target_trap ht⟩
      exact .failed e rfl (tlCheck_fits hc hw).1 fun _ => (tlCheck_fits hc hw).2

theorem storeScalar_effect (f : Scalar) (v : Word) (hop : opField (encode i) = 1 ∨ opField (encode i) = 3) :
    Effect i s ((storeScalar f v s).answer .none) :=
  .stored _ rfl (hop.imp_right .inl) (fun hb => Bank.set_wf _ _ _ hb) fun _ => storeScalar_masked _ _ _

theorem storeSoftint_effect (v : Word) (hop : opField (encode i) = 1 ∨ opField (encode i) = 3) :
    Effect i s ({ s with bank := s.bank.set .softint v }.answer .none) :=
  .stored _ rfl (hop.imp_right .inl) (fun hb => Bank.set_wf _ _ _ hb) fun _ => ⟨.inl rfl, .inl rfl⟩

theorem reserved_effect {op rsvd : BitVec 4} {id : RegId} (he : encode i = cmdWord op rsvd id)
    (h : i.wf = true → rsvd ≠ 0 ∨ 5 ≤ op.toNat) :
    Effect i s (s.raise (.illegalCommand (encode i)) (encode i)) := by
  refine .failed _ rfl (by simp) fun hi => ⟨rfl, ?_⟩
  rw [he, (Laws.fields_cmdWord op rsvd id).1, (Laws.fields_cmdWord op rsvd id).2.1]
  exact h hi

/-- The generic rows of a well-formed term reach no identifier that is never read (R86). -/
theorem rdp_wf_target : ∀ id : RegId, (Instr.rdp id).wf = true →
    target id ≠ some .softintSet ∧ target id ≠ some .softintClr ∧ target id ≠ some .noStorage := by
  decide

theorem rde_wf_target : ∀ id : RegId, (Instr.rde id).wf = true →
    target id ≠ some .softintSet ∧ target id ≠ some .softintClr ∧ target id ≠ some .noStorage := by
  decide

theorem wrp_wf_target : ∀ id : RegId, (Instr.wrp id).wf = true → target id ≠ some .noStorage := by decide

theorem wre_wf_target : ∀ id : RegId, (Instr.wre id).wf = true → target id ≠ some .noStorage := by decide

/-- Every next state of every command is one of the six cases. -/
theorem exec_effect {t : State} (h : exec i s = .next t) : Effect i s t := by
  cases i
  case reset => exact .wasReset rfl h
  case rdp id => cases h; exact readPlain_effect (op := 0) rfl (by decide) (rdp_wf_target id)
  case rde id => cases h; exact readPlain_effect (op := 2) rfl (by decide) (rde_wf_target id)
  case wrp id => cases h; exact writePlain_effect (op := 1) _ rfl (.inl rfl) (wrp_wf_target id)
  case wre id => cases h; exact writePlain_effect (op := 3) _ rfl (.inr rfl) (wre_wf_target id)
  case rdpTpc => cases h; exact readTrap_effect _ (by decide)
  case rdpTnpc => cases h; exact readTrap_effect _ (by decide)
  case rdpTstate => cases h; exact readTrap_effect _ (by decide)
  case rdpTt => cases h; exact readTrap_effect _ (by decide)
  case rdpHtstate => cases h; exact readTrap_effect _ (by decide)
  case wrpTpc => cases h; exact writeTrap_effect _ _ (by decide) (by decide)
  case wrpTnpc => cases h; exact writeTrap_effect _ _ (by decide) (by decide)
  case wrpTstate => cases h; exact writeTrap_effect _ _ (by decide) (by decide)
  case wrpTt => cases h; exact writeTrap_effect _ _ (by decide) (by decide)
  case wrpHtstate => cases h; exact writeTrap_effect _ _ (by decide) (by decide)
  case wreTickCmpr => cases h; exact .compared .tick rfl rfl
  case wreStickCmpr => cases h; exact .compared .stick rfl rfl
  case wreHstickCmpr => cases h; exact .compared .hstick rfl rfl
  case fireTick => cases h; exact .fired .tick rfl rfl
  case fireStick => cases h; exact .fired .stick rfl rfl
  case fireHstick => cases h; exact .fired .hstick rfl rfl
  case name id =>
    simp only [exec, execName] at h
    split at h
    · cases h; exact .answered _ rfl
    · next hn =>
      have hid : 56 ≤ id.toNat := by clear h; revert id; decide
      have hf := fields_of_generic 4 id
      cases h
      refine .failed _ rfl (by simp) fun _ => ⟨hf.1, ?_, hf.2.2.symm, hid⟩
      show (opField (cmdWord 4 0 id)).toNat ≤ 4
      rw [hf.2.1]; decide
  case restore =>
    simp only [exec, execRestore] at h
    split at h
    · next hl => cases h; exact .stored _ rfl (.inr (.inr rfl)) (fun _ => Bank.ofImage_wf hl) fun hn => absurd rfl hn
    · cases h; exact .failed _ rfl (by simp) fun _ => ⟨rfl, .inr (by decide)⟩
  case reservedOpa id => cases h; exact reserved_effect (op := 0xA) (rsvd := 0) rfl fun _ => by decide
  case reservedOpb id => cases h; exact reserved_effect (op := 0xB) (rsvd := 0) rfl fun _ => by decide
  case reservedOpc id => cases h; exact reserved_effect (op := 0xC) (rsvd := 0) rfl fun _ => by decide
  case reservedOpd id => cases h; exact reserved_effect (op := 0xD) (rsvd := 0) rfl fun _ => by decide
  case reservedOpe id => cases h; exact reserved_effect (op := 0xE) (rsvd := 0) rfl fun _ => by decide
  case reservedOpf id => cases h; exact reserved_effect (op := 0xF) (rsvd := 0) rfl fun _ => by decide
  case reservedRsvd op rsvd id =>
    cases h
    exact reserved_effect rfl fun hi => .inl (by simpa [Instr.wf] using hi)
  case wrpSoftintSet => cases h; exact storeSoftint_effect _ (by decide)
  case wrpSoftintClr => cases h; exact storeSoftint_effect _ (by decide)
  case wreCwp =>
    cases h
    exact .notified _ _ rfl (.inl ⟨rfl, rfl⟩) (fun hb => Bank.set_wf _ _ _ hb) ⟨.inl rfl, .inl rfl⟩
  case wreGl =>
    cases h
    exact .notified _ _ rfl (.inr (.inl ⟨rfl, rfl⟩)) (fun hb => Bank.set_wf _ _ _ hb) ⟨.inl rfl, .inl rfl⟩
  case wreSoftintSet =>
    cases h
    exact .notified _ _ rfl (.inr (.inr (.inl ⟨rfl, rfl⟩))) (fun hb => Bank.set_wf _ _ _ hb)
      ⟨.inl rfl, .inl rfl⟩
  case wreSoftintClr =>
    cases h
    exact .notified _ _ rfl (.inr (.inr (.inr (.inl ⟨rfl, rfl⟩)))) (fun hb => Bank.set_wf _ _ _ hb)
      ⟨.inl rfl, .inl rfl⟩
  case wreSoftint =>
    cases h
    exact .notified _ _ rfl (.inr (.inr (.inr (.inr ⟨rfl, rfl⟩)))) (fun hb => Bank.set_wf _ _ _ hb)
      ⟨.inl rfl, .inl rfl⟩
  all_goals
    cases h
    first
    | exact .answered _ rfl
    | exact storeScalar_effect _ _ (by decide)
    | exact .failed _ rfl (by simp) fun _ => ⟨by decide, by decide, by decide, by decide⟩

end Sys2Proof.Machine
end

