-- ==== Sys2Proof/Laws/Agents.lean ====
section
/-! SUPPORT. What a turn of an agent can be, said once: which command it is, and the step it takes. -/

namespace Sys2Proof.Machine

@[simp] theorem Turn.request_cmd (m : Turn) : m.request.cmd = m.cmd := rfl
@[simp] theorem Turn.request_wdata (m : Turn) : m.request.wdata = m.wdata := rfl
@[simp] theorem Turn.request_img (m : Turn) : m.request.img = m.img := rfl
@[simp] theorem Turn.request_ic (m : Turn) : m.request.ic = m.ic := rfl
@[simp] theorem Turn.request_sref (m : Turn) : m.request.sref = m.sref := rfl

@[simp] theorem State.offer_pending (ts : List Turn) (s : State) : (s.offer ts).pending = ts.map Turn.request := rfl
@[simp] theorem State.offer_bank (ts : List Turn) (s : State) : (s.offer ts).bank = s.bank := rfl
@[simp] theorem State.offer_events (ts : List Turn) (s : State) : (s.offer ts).events = s.events := rfl
@[simp] theorem State.offer_cfg (ts : List Turn) (s : State) : (s.offer ts).cfg = s.cfg := rfl

/-- A command fires a timer exactly when it is that timer's FIRE. -/
theorem firedTimer_eq_some {i : Instr} {k : Timer} : firedTimer i = some k ↔ i = fireOf k := by
  cases i <;> cases k <;> simp [firedTimer, fireOf]

/-- A legal turn is a command its issuer may issue; FIRE finds its event armed, and the persistence framework's RESTORE
brings a whole image. -/
theorem Turn.legal_cases {m : Turn} {s : State} (h : m.legal s = true) :
    ∃ i, decode m.cmd = .ok i ∧ m.issuer.mayIssue i = true ∧
      (∀ k, i = fireOf k → (s.events.get k).armed = true) ∧
      (m.issuer = .persistenceFramework → i = .restore → m.img.length = saveLen s.cfg) := by
  unfold Turn.legal at h
  split at h
  · next i hd =>
    rw [Bool.and_eq_true, Agent.liberty, Bool.and_eq_true] at h
    refine ⟨i, hd, h.1.1, ?_, ?_⟩
    · rintro k rfl
      have := h.1.2
      rwa [firedTimer_eq_some.2 rfl] at this
    · rintro ha rfl
      have := h.2
      rw [ha] at this
      exact of_decide_eq_true this
  · cases h

/-- The scheduler's commands are the three FIRE commands. -/
theorem Agent.scheduler_cases {i : Instr} (h : Agent.eventScheduler.mayIssue i = true) : ∃ k, i = fireOf k := by
  obtain ⟨k, hk⟩ := Option.isSome_iff_exists.1 h
  exact ⟨k, firedTimer_eq_some.1 hk⟩

/-- The persistence framework's commands are SAVE and RESTORE. -/
theorem Agent.persistence_cases {i : Instr} (h : Agent.persistenceFramework.mayIssue i = true) :
    i = .save ∨ i = .restore := by
  simpa [Agent.mayIssue] using h

/-- The execution context issues no FIRE and no reserved word. -/
theorem Agent.context_cases {i : Instr} (h : Agent.executionContext.mayIssue i = true) :
    isReserved i = false ∧ ∀ k, i ≠ fireOf k := by
  simp only [Agent.mayIssue, Bool.and_eq_true, Bool.not_eq_true', Option.isNone_iff_eq_none] at h
  exact ⟨h.1, fun k hk => by simp [firedTimer_eq_some.2 hk] at h⟩

/-- The step of a presented turn is its command's meaning, in the state with the turn's request on the port. -/
theorem step_of_turn {m : Turn} {s : State} {rest : List Request} {i : Instr} (hp : s.pending = m.request :: rest)
    (hd : decode m.cmd = .ok i) : step s = exec i (s.present m.request rest) := by
  simp only [step, hp, State.perform]
  rw [show (s.present m.request rest).port.cmd = m.cmd from rfl, hd]

end Sys2Proof.Machine
end

