-- ==== Sys2Proof/Tests/Slice0.lean ====
section
/-! SUPPORT. Tests of the model: the smoke test of the well-formedness check, the decoding of words written out from
the spec's encoding, the test vectors of 95_test_vectors.md (each one step, named by its number there), and one
witness for each obligation with hypotheses. The configuration is EX (00_scope.md R8). -/

open Sys2Proof Sys2Proof.Machine Sys2Proof.Claims

namespace Sys2Proof.Tests

/-- EX of R8, with one instance of its symbolic `PM` and `SSR`: four 4-bit fields and one bit, and a word not 0. -/
def ex : Config :=
  { maxTL := 6, maxGL := 3, nWindows := 8, pstateMask := 0x8F0F0F0F, hpstateResetBit := 2, strandStsReset := 0x5A,
    timeScale := 1, trapDeliverySupplied := true }

/-- EX without trap delivery. -/
def exNoTrap : Config := { ex with trapDeliverySupplied := false }

/-- "start R" of 95_test_vectors.md. -/
def start : State := State.resetWith ex

/-- A command word with WDATA, IC and SREF. -/
def req (cmd : CmdWord) (v ic sref : Word) : Request := { cmd := cmd, wdata := v, img := [], ic := ic, sref := sref }

/-- One step with one command presented. -/
def does (s : State) (r : Request) : State :=
  match step { s with pending := [r] } with
  | .next t => t
  | _ => s

/-- RDATA of a command with no operand. -/
def rdata (s : State) (cmd : CmdWord) : Response := (does s (req cmd 0 0 0)).resp

/-- "start R" with another trap level. -/
def atLevel (tl : Word) : State := { start with bank := { start.bank with tl := tl } }

/-- "start R" with another stored counter word. -/
def ticking (w : Word) : State := { start with bank := { start.bank with tick := w } }

/-- The state after TV-T1: event 0 Armed with delay 500. -/
def armedTick : State :=
  { start with
    bank := { start.bank with tickCmpr := 1500 }
    events := { start.events with tick := { alloc := true, armed := true, delay := 500 } } }

/-- Event 1 Armed as by TV-T9. -/
def armedStick : State :=
  { start with
    bank := { start.bank with stickCmpr := 6000 }
    events := { start.events with stick := { alloc := true, armed := true, delay := 1000 } } }

/-- Every event Armed. -/
def armedAll : State :=
  { start with
    events :=
      { tick := { alloc := true, armed := true, delay := 500 }
        stick := { alloc := true, armed := true, delay := 1000 }
        hstick := { alloc := true, armed := true, delay := 7 } } }

/-! The well-formedness check refuses a generic row with an identifier that has a row of its own, and RSVD = 0 in the
RESERVED.RSVD row. -/

theorem test_wf_refuses_rdp_own_row : (Instr.rdp 3).wf = false := by decide
theorem test_wf_refuses_wrp_own_row : (Instr.wrp 18).wf = false := by decide
theorem test_wf_refuses_rde_own_row : (Instr.rde 4).wf = false := by decide
theorem test_wf_refuses_wre_own_row : (Instr.wre 10).wf = false := by decide
theorem test_wf_refuses_rsvd_zero : (Instr.reservedRsvd 5 0 0).wf = false := by decide
theorem test_wf_admits_unknown_ids : (Instr.rdp 200).wf && (Instr.wre 255).wf && (Instr.name 56).wf = true := by decide

/-! The decoding of every constructor, each word written out as OP, RSVD, ID (R81, R85). -/

theorem test_decode_rdp : ∀ p ∈ ([(0x0000, .rdp 0), (0x0002, .rdp 2), (0x000C, .rdp 12), (0x00FF, .rdp 255),
    (0x0003, .rdpTick), (0x0005, .rdpPcr), (0x0006, .rdpPic), (0x0007, .rdpSoftintSet), (0x0008, .rdpSoftintClr),
    (0x000D, .rdpTpc), (0x000E, .rdpTnpc), (0x000F, .rdpTstate), (0x0010, .rdpTt), (0x0011, .rdpPrivtick),
    (0x001E, .rdpHtstate), (0x001F, .rdpHintp), (0x0020, .rdpHver)] : List (Nat × Instr)),
    decodeTableWord 16 p.1 = some p.2 := by decide

theorem test_decode_wrp : ∀ p ∈ ([(0x1000, .wrp 0), (0x1037, .wrp 55), (0x1038, .wrp 56), (0x1003, .wrpTick),
    (0x1005, .wrpPcr), (0x1006, .wrpPic), (0x1007, .wrpSoftintSet), (0x1008, .wrpSoftintClr), (0x100D, .wrpTpc),
    (0x100E, .wrpTnpc), (0x100F, .wrpTstate), (0x1010, .wrpTt), (0x1011, .wrpPrivtick), (0x1012, .wrpTba),
    (0x1013, .wrpPstate), (0x101E, .wrpHtstate), (0x101F, .wrpHintp), (0x1020, .wrpHver)] : List (Nat × Instr)),
    decodeTableWord 16 p.1 = some p.2 := by decide

theorem test_decode_rde : ∀ p ∈ ([(0x2000, .rde 0), (0x200D, .rde 13), (0x2063, .rde 99), (0x2003, .rdeTick),
    (0x2004, .rdeFprs), (0x2005, .rdePcr), (0x2006, .rdePic), (0x2007, .rdeSoftintSet), (0x2008, .rdeSoftintClr),
    (0x200B, .rdeStick), (0x2011, .rdePrivtick), (0x201F, .rdeHintp), (0x2020, .rdeHver), (0x2023, .rdeFsr)]
    : List (Nat × Instr)), decodeTableWord 16 p.1 = some p.2 := by decide

theorem test_decode_wre : ∀ p ∈ ([(0x3000, .wre 0), (0x3012, .wre 18), (0x30FF, .wre 255), (0x3003, .wreTick),
    (0x3005, .wrePcr), (0x3006, .wrePic), (0x3007, .wreSoftintSet), (0x3008, .wreSoftintClr), (0x3009, .wreSoftint),
    (0x300A, .wreTickCmpr), (0x300B, .wreStick), (0x300C, .wreStickCmpr), (0x3011, .wrePrivtick),
    (0x3013, .wrePstate), (0x3014, .wreTl), (0x3016, .wreCwp), (0x301C, .wreGl), (0x301F, .wreHintp),
    (0x3020, .wreHver), (0x3022, .wreHstickCmpr)] : List (Nat × Instr)), decodeTableWord 16 p.1 = some p.2 := by decide

theorem test_decode_others : ∀ p ∈ ([(0x4005, .name 5), (0x40FF, .name 255), (0x5000, .reset), (0x6000, .save),
    (0x7000, .restore), (0x8000, .fireTick), (0x8001, .fireStick), (0x8002, .fireHstick), (0x9000, .isschedTick),
    (0x9001, .isschedStick), (0x9002, .isschedHstick), (0xA000, .reservedOpa 0), (0xB001, .reservedOpb 1),
    (0xC038, .reservedOpc 56), (0xD0FF, .reservedOpd 255), (0xE000, .reservedOpe 0), (0xF0FF, .reservedOpf 255),
    (0x0100, .reservedRsvd 0 1 0), (0x0138, .reservedRsvd 0 1 0x38), (0xF8FF, .reservedRsvd 15 8 255)]
    : List (Nat × Instr)), decodeTableWord 16 p.1 = some p.2 := by decide

/-- R87 (c), (d): no row covers these words. -/
theorem test_decode_rejects : ∀ w ∈ ([0x5001, 0x6001, 0x7001, 0x50FF, 0x8003, 0x80FF, 0x9003] : List Nat),
    decodeTableWord 16 w = none := by decide

/-! RDP, WRP and NAME. -/

/-- TV-P1. -/
theorem test_wrp_stores_asi : (does start (req 0x1002 0x80 0 0)).bank.asi = 0x80 := by decide
/-- TV-P16: the slot of its own identifier, no other. -/
theorem test_wrp_scratch_slot : (does start (req 0x1034 5 0 0)).bank.scratch = #v[0, 0, 0, 0, 5, 0, 0, 0] := by decide
/-- TV-P2. -/
theorem test_wrp_tba_drops_low_bits : (does start (req 0x1012 0x12345FFFF 0 0)).bank.tba = 0x123458000 := by decide
/-- TV-P3. -/
theorem test_wrp_tba_all_dropped : (does start (req 0x1012 0x7FFF 0 0)).bank.tba = 0 := by decide
/-- TV-P5. -/
theorem test_wrp_pstate_masks : (does start (req 0x1013 0xFFFFFFFFFFFFFFFF 0 0)).bank.pstate = 0x8F0F0F0F := by decide
/-- TV-P6: no error. -/
theorem test_wrp_pstate_illegal_bits_no_error :
    (does start (req 0x1013 0xFFFFFFFF70F0F0F0 0 0)).resp = .ok .none := by decide
/-- TV-P7, its write at trap level 6. -/
theorem test_wrp_tpc_at_level_six : (does (atLevel 6) (req 0x100D 0xF 0 0)).bank.tpc = [0, 0, 0, 0, 0, 0xF] := by decide
/-- R103: `wrp TL, 1; wrp TT, 0x4E` sets the first element. -/
theorem test_wrp_tt_at_level_one : (does (atLevel 1) (req 0x1010 0x4E 0 0)).bank.tt = [0x4E, 0, 0, 0, 0, 0] := by decide
/-- P4 step 4. -/
theorem test_wrp_htstate_at_level_three :
    (does (atLevel 3) (req 0x101E 0x55 0 0)).bank.htstate = [0, 0, 0x55, 0, 0, 0] := by decide
/-- TV-P9. -/
theorem test_wrp_tnpc_above_maxtl :
    (does (atLevel 7) (req 0x100E 1 0 0)).resp = .error (.invalidTrapLevel 7) := by decide
/-- R103: the third array. -/
theorem test_wrp_tstate_at_level_two :
    (does (atLevel 2) (req 0x100F 9 0 0)).bank.tstate = [0, 9, 0, 0, 0, 0] := by decide
/-- TV-P8, with the fault record it sets (R223). -/
theorem test_rdp_tpc_at_level_zero_faults :
    (does start (req 0x000D 0 0 0)).fault = some { err := .invalidTrapLevel 0, cmd := 0x000D } := by decide
/-- R101: the example. -/
theorem test_rdp_tpc_at_level_two :
    rdata { atLevel 2 with bank := { (atLevel 2).bank with tpc := [1, 0x4000, 3, 4, 5, 6] } } 0x000D =
      .ok (.word 0x4000) := by decide
/-- TV-P10. -/
theorem test_rdp_unknown : rdata start 0x00C8 = .error (.unknownRegister 200) := by decide
/-- TV-P11. -/
theorem test_wrp_unknown : (does start (req 0x1038 1 0 0)).resp = .error (.unknownRegister 56) := by decide
/-- TV-P12 and TV-X6. -/
theorem test_plain_not_implemented :
    rdata start 0x0005 = .error (.notImplemented (.register 5)) ∧
    rdata start 0x1006 = .error (.notImplemented (.register 6)) ∧
    rdata start 0x001F = .error (.notImplemented (.register 31)) ∧
    rdata start 0x1020 = .error (.notImplemented (.register 32)) := by decide
/-- TV-P13 and TV-E24. -/
theorem test_softint_set_clr_unreadable :
    rdata start 0x0007 = .error (.notImplemented (.register 7)) ∧
    rdata start 0x2008 = .error (.notImplemented (.register 8)) := by decide
/-- TV-P14, STORE. -/
theorem test_wrp_softint_clr_stores :
    (does { start with bank := { start.bank with softint := 0x10 } } (req 0x1008 0x1 0 0)).bank.softint = 1 := by decide
/-- TV-P15, SETCLR. -/
theorem test_wrp_softint_clr_clears :
    (does { start with cfg := { ex with softintPolicy := .setclr }, bank := { start.bank with softint := 0x13 } }
      (req 0x1008 0x11 0 0)).bank.softint = 2 := by decide
/-- TV-P15, SETCLR. -/
theorem test_wrp_softint_set_sets :
    (does { start with cfg := { ex with softintPolicy := .setclr }, bank := { start.bank with softint := 0x10 } }
      (req 0x1007 0x3 0 0)).bank.softint = 0x13 := by decide
/-- TV-P17: no CTX_CHANGE. -/
theorem test_wrp_cwp_is_silent : (does start (req 0x1016 3 0 0)).strobes = [] := by decide
/-- TV-P18. -/
theorem test_wrp_tick_is_raw : (does start (req 0x1003 5 1000 0)).bank.tick = 5 := by decide
/-- TV-P18. -/
theorem test_rdp_privtick_is_raw : rdata (ticking 5) 0x0011 = .ok (.word 5) := by decide
/-- TV-P20: the event stays Armed. -/
theorem test_wrp_compare_leaves_event :
    (does armedTick (req 0x100A 0x8000000000000000 0 0)).events.tick.armed = true := by decide
/-- TV-N3. -/
theorem test_name_last : rdata start 0x4037 = .ok (.name "SCRATCHPAD7") := by decide
/-- TV-N4. -/
theorem test_name_unimplemented : rdata start 0x4005 = .ok (.name "PCR") := by decide
/-- TV-N5. -/
theorem test_name_unknown : rdata start 0x4038 = .error (.unknownRegister 56) := by decide

/-! RDE and WRE. -/

/-- TV-E1. -/
theorem test_rde_tick_drops_low_bits : (does start (req 0x2003 0 1003 0)).resp = .ok (.word 0x3E8) := by decide
/-- TV-E12. -/
theorem test_rde_tick_wraps : (does (ticking 1) (req 0x2003 0 0 0)).resp = .ok (.word 0x7FFFFFFFFFFFFFFC) := by decide
/-- TV-E9. -/
theorem test_rde_privtick_keeps_enable :
    (does (ticking 0xFFFFFFFFFFFFFFCE) (req 0x2011 0 60 0)).resp = .ok (.word 0x800000000000006C) := by decide
/-- TV-E6. -/
theorem test_wre_tick_rebases : (does start (req 0x3003 0x1237 100 0)).bank.tick = 0x7FFFFFFFFFFFEE2D := by decide
/-- TV-E13. -/
theorem test_wre_tick_enable_bit :
    (does start (req 0x3003 0xFFFFFFFFFFFFFFF0 10 0)).bank.tick = 0x800000000000001A := by decide
/-- TV-E14. -/
theorem test_wre_privtick_rebases : (does start (req 0x3011 8 100 0)).bank.tick = 92 := by decide
/-- TV-E15. -/
theorem test_wre_stick_verbatim : (does start (req 0x300B 77 1000 0)).bank.stick = 77 := by decide
/-- TV-E15. -/
theorem test_rde_stick_verbatim :
    (does { start with bank := { start.bank with stick := 77 } } (req 0x200B 0 1000 0)).resp = .ok (.word 77) := by
  decide
/-- TV-E16. -/
theorem test_rde_hver : rdata start 0x2020 = .ok (.word 0x30608) := by decide
/-- TV-E17. -/
theorem test_rde_not_implemented :
    rdata start 0x2004 = .error (.notImplemented (.register 4)) ∧
    rdata start 0x2023 = .error (.notImplemented (.register 35)) ∧
    rdata start 0x201F = .error (.notImplemented (.register 31)) := by decide
/-- TV-E18. -/
theorem test_wre_fsr_stores : (does start (req 0x3023 0x55 0 0)).bank.fsr = 0x55 := by decide
/-- TV-E21: the store and the whole value on the strobe. -/
theorem test_wre_cwp_notifies :
    (does start (req 0x3016 0x100 0 0)).strobes = [.ctxChange .currentWindow 0x100] ∧
    (does start (req 0x3016 0x100 0 0)).bank.cwp = 0x100 := by decide
/-- TV-E20: emitted although the value is unchanged. -/
theorem test_wre_gl_notifies :
    (does { start with bank := { start.bank with gl := 2 } } (req 0x301C 2 0 0)).strobes = [.ctxChange .globalSet 2] := by
  decide
/-- TV-E22. -/
theorem test_wre_softint_strobes : (does start (req 0x3009 0x1 0 0)).strobes = [.softintWr 9 0x1] := by decide
/-- TV-E23. -/
theorem test_wre_softint_set_strobes :
    (does start (req 0x3007 0x4 0 0)).strobes = [.softintWr 7 0x4] ∧
    (does start (req 0x3007 0x4 0 0)).bank.softint = 4 := by decide
/-- TV-E25, its write. -/
theorem test_wre_tpc_at_level_three :
    (does (atLevel 3) (req 0x300D 0x40 0 0)).bank.tpc = [0, 0, 0x40, 0, 0, 0] := by decide
/-- TV-E26. -/
theorem test_wre_pstate_masks : (does start (req 0x3013 0xFFFFFFFFFFFFFFFF 0 0)).bank.pstate = 0x8F0F0F0F := by decide
/-- TV-E27. -/
theorem test_wre_tba_masks : (does start (req 0x3012 0x1FFFF 0 0)).bank.tba = 0x18000 := by decide
/-- TV-E28. -/
theorem test_wre_not_implemented :
    rdata start 0x3005 = .error (.notImplemented (.register 5)) ∧
    rdata start 0x3020 = .error (.notImplemented (.register 32)) := by decide
/-- TV-E29. -/
theorem test_wre_tt_at_level_zero : rdata start 0x3010 = .error (.invalidTrapLevel 0) := by decide
/-- R37: TL takes any value. -/
theorem test_wre_tl_no_range_check : (does start (req 0x3014 7 0 0)).bank.tl = 7 := by decide

/-! Compare writes, FIRE and ISSCHED. -/

/-- TV-T1. -/
theorem test_compare_arms :
    (does start (req 0x300A 1500 1000 0)).strobes = [.sched .tick 500] ∧
    (does start (req 0x300A 1500 1000 0)).events.tick = { alloc := true, armed := true, delay := 500 } := by decide
/-- TV-T2, CANCEL. -/
theorem test_compare_cancels_stale :
    (does armedTick (req 0x300A 800 1000 0)).strobes = [.desched .tick] ∧
    (does armedTick (req 0x300A 800 1000 0)).events.tick.armed = false := by decide
/-- TV-T2, KEEP. -/
theorem test_compare_keeps_stale :
    (does { armedTick with cfg := { ex with stalePolicy := .keep } } (req 0x300A 800 1000 0)).events.tick =
      { alloc := true, armed := true, delay := 500 } := by decide
/-- TV-T3: the disable bit is stored. -/
theorem test_compare_disabled_descheduled :
    (does armedTick (req 0x300A 0x80000000000005DC 1000 0)).strobes = [.desched .tick] ∧
    (does armedTick (req 0x300A 0x80000000000005DC 1000 0)).bank.tickCmpr = 0x80000000000005DC := by decide
/-- TV-T5. -/
theorem test_compare_zero_delta : (does start (req 0x300A 1000 1000 0)).strobes = [] := by decide
/-- TV-T6. -/
theorem test_compare_rearms :
    (does armedTick (req 0x300A 1200 1100 0)).strobes = [.desched .tick, .sched .tick 100] := by decide
/-- TV-T7, STORED. -/
theorem test_compare_stored_reference :
    (does { ticking 995 with cfg := { ex with tickCmprRef := .stored } } (req 0x300A 105 1000 0)).strobes = [] := by
  decide
/-- TV-T7, LIVE. -/
theorem test_compare_live_reference :
    (does (ticking 995) (req 0x300A 105 1000 0)).strobes = [.sched .tick 100] := by decide
/-- TV-T12. -/
theorem test_compare_stick_masks_sref :
    (does start (req 0x300C 20 0 0x800000000000000A)).strobes = [.sched .stick 10] := by decide
/-- TV-T10. -/
theorem test_compare_hstick_negative_delta : (does start (req 0x3022 4000 0 5000)).strobes = [] := by decide
/-- TV-T14. -/
theorem test_compare_time_scale :
    (does { start with cfg := { ex with timeScale := 1000, timeScale_pos := by decide } } (req 0x300A 1500 1000 0)).strobes =
      [.sched .tick 500000] := by decide
/-- TV-F1. -/
theorem test_fire_requests_trap :
    (does armedTick (req 0x8000 0 0 0)).strobes = [.trapReq .tick] ∧
    (does armedTick (req 0x8000 0 0 0)).events.tick.armed = false := by decide
/-- TV-F2: the event is consumed though the command ends in an error. -/
theorem test_fire_without_delivery :
    (does { armedTick with cfg := exNoTrap } (req 0x8000 0 0 0)).resp = .error (.notImplemented (.fireBody .tick)) ∧
    (does { armedTick with cfg := exNoTrap } (req 0x8000 0 0 0)).events.tick.armed = false := by decide
/-- TV-F3. -/
theorem test_fire_unarmed : rdata start 0x8001 = .error (.illegalCommand 0x8001) := by decide
/-- TV-X8. -/
theorem test_fire_unarmed_comes_first :
    rdata { start with cfg := exNoTrap } 0x8000 = .error (.illegalCommand 0x8000) := by decide
/-- R182. -/
theorem test_issched : rdata armedStick 0x9001 = .ok (.word 1) ∧ rdata armedStick 0x9002 = .ok (.word 0) := by decide

/-! SAVE, RESTORE and RESET. -/

/-- TV-V1: words 20 and 21, and the length. -/
theorem test_save_of_reset :
    (match rdata start 0x6000 with
      | .ok (.image img) => img.length == 74 && img.getD 20 0 == 0x4 && img.getD 21 0 == 0x5A
      | _ => false) = true := by decide
/-- P4, the image words 62 (`htstate[2]`) and 73 (`scratch[7]`). -/
theorem test_save_positions :
    (match rdata { start with bank := { start.bank with htstate := [0, 0, 0x55, 0, 0, 0], scratch := #v[0, 0, 0, 0, 0, 0, 0, 0xAB] } }
        0x6000 with
      | .ok (.image img) => img.getD 62 0 == 0x55 && img.getD 73 0 == 0xAB
      | _ => false) = true := by decide
/-- TV-V4. -/
theorem test_restore_wrong_length :
    (does start { req 0x7000 0 0 0 with img := List.replicate 73 0 }).resp = .error (.illegalCommand 0x7000) := by decide
/-- TV-V5: raw, no mask. -/
theorem test_restore_raw_tba :
    (does start { req 0x7000 0 0 0 with img := (List.replicate 74 0).set 9 0x7FFF }).bank.tba = 0x7FFF := by decide
/-- TV-R1. -/
theorem test_reset_hpstate_strand :
    (does armedAll (req 0x5000 0 0 0)).bank.hpstate = 0x4 ∧ (does armedAll (req 0x5000 0 0 0)).bank.strandSts = 0x5A := by
  decide
/-- TV-R2 with all three events Armed: DESCHED in timer order. -/
theorem test_reset_deschedules :
    (does armedAll (req 0x5000 0 0 0)).strobes = [.desched .tick, .desched .stick, .desched .hstick] ∧
    (does armedAll (req 0x5000 0 0 0)).events.tick = { alloc := true, armed := false, delay := 0 } := by decide
/-- TV-R6. -/
theorem test_reset_keeps_fault :
    (does (does start (req 0x00C8 0 0 0)) (req 0x5000 0 0 0)).fault =
      some { err := .unknownRegister 200, cmd := 0x00C8 } := by decide
/-- R206: the bytes of word 20 of TV-V1. -/
theorem test_image_bytes : imageBytes [0x0102030405060708] = [1, 2, 3, 4, 5, 6, 7, 8] := rfl

/-! Illegal words. -/

/-- TV-X1 to TV-X5. -/
theorem test_illegal_words :
    ([0xA000, 0xF0FF, 0x0100, 0x0138, 0x5001, 0x6001, 0x7001, 0x80FF, 0x9003].all fun w =>
      decide (rdata start w = .error (.illegalCommand w))) = true := by decide

/-! The hardware's own reset state: the next step runs the word placed by `withFetchWord`. -/

theorem test_fetch_wre_cwp :
    step (State.reset.withFetchWord 16 0x3016) =
      exec .wreCwp { State.reset with port := { Request.quiet with cmd := 0x3016 } } := rfl
theorem test_fetch_rdp_tpc_at_reset :
    (match step (State.reset.withFetchWord 16 0x000D) with
      | .next t => t.resp
      | _ => .ok .none) = .error (.invalidTrapLevel 0) := rfl

/-! Text syntax (R90, R91). -/

/-- R90: `@ic` holds from that line on; `#n` is a decimal identifier. -/
theorem test_assemble_lines :
    assemble { ic := 0, sref := 0, images := [] } ["; comment", "@ic 1000", "wre TICK_CMPR, 0x5_DC", "rdp #200", "fire hstick"] =
      .ok [req 0x300A 1500 1000 0, req 0x00C8 0 1000 0, req 0x8002 0 1000 0] := by rfl
/-- R91. -/
theorem test_assemble_disable :
    assemble { ic := 0, sref := 0, images := [] } ["disable_cmpr STICK_CMPR, 5", "set_tick 7"] =
      .ok [req 0x300C 0x8000000000000005 0 0, req 0x3003 7 0 0] := by rfl

/-! Witnesses: for each obligation with hypotheses, a concrete state and operands that meet all of them. -/

/-- One command presented, one more behind it. -/
def presented (s : State) (cmd : CmdWord) : State := { s with pending := [req cmd 3 5 7, req 0x5000 0 0 0] }

/-- Trap level 2, an armed event, a policy of each kind and a recorded error: a state off the reset values. -/
def busy : State :=
  { armedStick with
    bank := { (atLevel 2).bank with tpc := [1, 2, 3, 4, 5, 6] }
    fault := some { err := .unknownRegister 200, cmd := 0x00C8 } }

/-- The next state of a command. -/
def after (i : Instr) (s : State) : State :=
  match exec i s with
  | .next t => t
  | _ => s

theorem witness_DecodeAfterEncode :
    (Instr.wrp 55).wf = true ∧ (Instr.rde 255).wf = true ∧ (Instr.reservedRsvd 15 1 0).wf = true := by decide

theorem witness_EncodeAfterDecode :
    decode 0x1037 = .ok (.wrp 55) ∧ decode 0xF0FF = .ok (.reservedOpf 255) := ⟨rfl, rfl⟩

theorem witness_StepRunsDecodedCommand :
    (presented start 0x300A).pending = req 0x300A 3 5 7 :: [req 0x5000 0 0 0] ∧
      decode (req 0x300A 3 5 7).cmd = .ok .wreTickCmpr := ⟨rfl, rfl⟩

/-- One word for each case (a) to (f) of R87. -/
theorem witness_IllegalWordsAnswerIllegalCommand :
    illegal start (req 0xA000 0 0 0) ∧ illegal start (req 0x0100 0 0 0) ∧ illegal start (req 0x5001 0 0 0) ∧
      illegal start (req 0x8003 0 0 0) ∧ illegal start (req 0x7000 0 0 0) ∧ illegal start (req 0x8001 0 0 0) :=
  ⟨.inr (.inl (by decide)), .inl (by decide), .inr (.inr (.inl ⟨.inl rfl, by decide⟩)),
    .inr (.inr (.inr (.inl ⟨.inl rfl, by decide⟩))), .inr (.inr (.inr (.inr (.inl ⟨rfl, by decide⟩)))),
    .inr (.inr (.inr (.inr (.inr ⟨rfl, units[1], List.getElem_mem _, rfl, rfl⟩))))⟩

theorem witness_IllegalCommandOnlyForIllegalWords :
    (presented start 0x9003).pending = req 0x9003 3 5 7 :: [req 0x5000 0 0 0] ∧
      ∃ t, step (presented start 0x9003) = .next t ∧ t.resp = .error (.illegalCommand 0x9003) := ⟨rfl, _, rfl, rfl⟩

theorem witness_IdleStepChangesNothing : start.pending = [] := rfl

/-- An error that changes nothing, and FIRE of an armed event without trap delivery. -/
theorem witness_ErrorsArePrecise :
    (∃ t, step (presented busy 0x0020) = .next t ∧ t.resp = .error (.notImplemented (.register 32))) ∧
      ∃ t, step (presented { armedTick with cfg := exNoTrap } 0x8000) = .next t ∧
        t.resp = .error (.notImplemented (.fireBody .tick)) :=
  ⟨⟨_, rfl, rfl⟩, ⟨_, rfl, rfl⟩⟩

/-- A record that is there, and none. -/
theorem witness_FaultRecordIsFirstError :
    (∃ t, step (presented busy 0x0005) = .next t ∧ busy.fault = some { err := .unknownRegister 200, cmd := 0x00C8 }) ∧
      ∃ t, step (presented start 0x0005) = .next t ∧ start.fault = none ∧
        t.resp = .error (.notImplemented (.register 5)) :=
  ⟨⟨_, rfl, rfl⟩, ⟨_, rfl, rfl, rfl⟩⟩

theorem witness_UnknownRegisterCauses :
    ∃ t, exec (.wre 56) busy = .next t ∧ t.resp = .error (.unknownRegister 56) := ⟨_, rfl, rfl⟩

theorem witness_NotImplementedCauses :
    Instr.rdeFprs.wf = true ∧ ∃ t, exec .rdeFprs busy = .next t ∧ t.resp = .error (.notImplemented (.register 4)) :=
  ⟨rfl, _, rfl, rfl⟩

theorem witness_InvalidTrapLevelCauses :
    (Instr.wre 13).wf = true ∧
      ∃ t, exec (.wre 13) (atLevel 7) = .next t ∧ t.resp = .error (.invalidTrapLevel 7) := ⟨rfl, _, rfl, rfl⟩

/-- The first and the last row, and the identifiers at both ends of what names no register: of RDP, WRP, RDE and WRE. -/
theorem witness_verbatimScalars :
    (∃ row ∈ verbatimScalars, row.1 = 0) ∧
    (∃ row ∈ verbatimScalars, row.1 = 47 ∧ row.1 ≠ 4 ∧ row.1 ≠ 35 ∧
      row.1 ∉ ([9, 10, 11, 12, 20, 22, 28, 34] : List RegId)) ∧
    56 ≤ (56 : RegId).toNat ∧ 56 ≤ (255 : RegId).toNat :=
  ⟨⟨_, List.getElem_mem (n := 0) (by decide), rfl⟩,
    ⟨_, List.getElem_mem (n := 32) (by decide), rfl, by decide, by decide, by decide⟩, by decide, by decide⟩

/-- Trap level 2 with its element, trap levels 1 and MAXTL, and 0 and MAXTL + 1. -/
theorem witness_TrapArrayReads :
    (∃ row ∈ trapArrays, row.1 = 13 ∧ (row.2.2.2.1 busy.bank)[busy.bank.tl.toNat - 1]? = some 2) ∧ busy.tlOk ∧
      (atLevel 1).tlOk ∧ (atLevel 6).tlOk ∧ ¬(atLevel 0).tlOk ∧ ¬(atLevel 7).tlOk :=
  ⟨⟨_, List.getElem_mem (n := 0) (by decide), rfl, rfl⟩, by decide, by decide, by decide, by decide, by decide⟩

theorem witness_TrapArrayWrites : (∃ row ∈ trapArrays, row.1 = 30) ∧ (atLevel 1).tlOk ∧ (atLevel 6).tlOk ∧
    ¬(atLevel 0).tlOk ∧ ¬(atLevel 7).tlOk :=
  ⟨⟨_, List.getElem_mem (n := 4) (by decide), rfl⟩, by decide, by decide, by decide, by decide⟩

/-- Trap levels 0 and MAXTL + 1. -/
theorem witness_TrapArrayAccessOutOfRange :
    Instr.rdpTpc ∈ trapAccesses ∧ start.bank.tl = 0 ∧ (atLevel 7).cfg.maxTL < (atLevel 7).bank.tl.toNat := by
  decide

theorem witness_UnmodelledAccesses : (Instr.wreHver, 32, 0x3020) ∈ alwaysNotImplemented := by decide

theorem witness_SoftintSetClrByPolicy :
    start.cfg.softintPolicy = .store ∧ { start with cfg := { ex with softintPolicy := .setclr } }.cfg.softintPolicy = .setclr :=
  ⟨rfl, rfl⟩

theorem witness_NameReturnsRegisterName : ((0, "Y") ∈ names ∧ (55, "SCRATCHPAD7") ∈ names) ∧ 56 ≤ (56 : RegId).toNat := by
  decide

/-- A per-trap-level register at trap level 2, and identifiers that need no premise on TL. -/
theorem witness_WriteReadLaw :
    ((30 : RegId).toNat < 56 ∧ (30 : RegId) ∉ ([5, 6, 7, 8, 31, 32] : List RegId) ∧
      busy.bank.wf busy.cfg.maxTL = true ∧ busy.tlOk) ∧
    ((55 : RegId).toNat < 56 ∧ (55 : RegId) ∉ ([5, 6, 7, 8, 31, 32, 13, 14, 15, 16, 30] : List RegId) ∧
      start.bank.wf start.cfg.maxTL = true) := by
  decide

/-- Writes in between at trap levels 0, 1, 6 and 7 while the level is 2, by WRP and by WRE. -/
theorem witness_TrapLevelSeparation :
    busy.bank.wf busy.cfg.maxTL = true ∧ 1 ≤ (2 : Word).toNat ∧ (2 : Word).toNat ≤ busy.cfg.maxTL ∧
      (∀ o ∈ ([(0, true, 9), (1, false, 9), (6, true, 9), (7, false, 9)] : List (Word × Bool × Word)), o.1 ≠ 2) :=
  ⟨by decide, by decide, by decide, by simp⟩

theorem witness_CounterLaw :
    ∃ t, exec .wreTick start = .next t ∧ { t with port := req 0x2003 0 9 0 }.bank.tick = t.bank.tick := ⟨_, rfl, rfl⟩

/-- A write that arms, one that is disabled, one with `delta = 0`; both policies. -/
theorem witness_CompareWrite :
    arming .tick { start with port := req 0x300A 1500 1000 0 } ∧
    (¬arming .tick { start with port := req 0x300A 0x8000000000000000 0 0 } ∧
      2 ^ 63 ≤ (0x8000000000000000 : Word).toNat) ∧
    (¬arming .tick { start with port := req 0x300A 1000 1000 0 } ∧ start.cfg.stalePolicy = .cancel) ∧
    (¬arming .stick { start with cfg := { ex with stalePolicy := .keep }, port := req 0x300C 0 0 0 } ∧
      (0 : Word).toNat < 2 ^ 63) := by
  unfold arming
  decide

theorem witness_EventChangesOnlyByItsCommands :
    ∃ t, exec .fireTick armedAll = .next t ∧ t.events.tick ≠ armedAll.events.tick ∧ units[0] ∈ units :=
  ⟨_, rfl, by decide, List.getElem_mem _⟩

theorem witness_SchedulingLaw :
    arming .tick { start with port := req 0x300A 1500 1000 0 } ∧
      (∃ t t', exec .wreTickCmpr { start with port := req 0x300A 1500 1000 0 } = .next t ∧
        2 ^ 63 ≤ (0x80000000000005DC : Word).toNat ∧
        exec .wreTickCmpr (withData t 0x80000000000005DC) = .next t') :=
  ⟨by unfold arming; decide, _, _, rfl, by decide, rfl⟩

/-- The three clauses of FIRE. -/
theorem witness_FireConsumesArmedEvent :
    (armedTick.events.tick.armed = true ∧ armedTick.cfg.trapDeliverySupplied = true) ∧
    ({ armedTick with cfg := exNoTrap }.events.tick.armed = true ∧
      { armedTick with cfg := exNoTrap }.cfg.trapDeliverySupplied = false) ∧
    start.events.tick.armed = false ∧ 2 < (3 : RegId).toNat ∧
    (presented start 0x8003).pending = req 0x8003 3 5 7 :: [req 0x5000 0 0 0] := by decide

theorem witness_IsSchedReturnsArmed :
    2 < (3 : RegId).toNat ∧ (presented start 0x90FF).pending = req 0x90FF 3 5 7 :: [req 0x5000 0 0 0] ∧
      (req 0x90FF 3 5 7).cmd = 0x9000 + BitVec.ofNat 16 (255 : RegId).toNat := by decide

theorem witness_TrapRequestOnlyByFire :
    ∃ t, exec .fireStick armedAll = .next t ∧ t.strobes = armedAll.strobes ++ [.trapReq .stick] := ⟨_, rfl, rfl⟩

theorem witness_NotificationsOnlyByEffectfulWrites :
    (∃ t, exec .wreGl start = .next t ∧ t.strobes = start.strobes ++ [.ctxChange .globalSet start.port.wdata]) ∧
      ∃ t, exec .wreSoftintClr start = .next t ∧ t.strobes = start.strobes ++ [.softintWr 8 start.port.wdata] :=
  ⟨⟨_, rfl, rfl⟩, ⟨_, rfl, rfl⟩⟩

theorem witness_SaveReturnsImage : busy.bank.wf busy.cfg.maxTL = true := by decide

/-- An image of the right length and one of a wrong length. -/
theorem witness_RestoreWritesImage :
    ({ req 0x7000 0 0 0 with img := List.replicate 74 1 }.img.length = 44 + 5 * start.cfg.maxTL) ∧
      (req 0x7000 0 0 0).img.length ≠ 44 + 5 * start.cfg.maxTL := by decide

/-- A saved bank and another state of the same configuration that is given its image; and an image of the right
length restored. -/
theorem witness_SaveRestoreRoundTrip :
    (busy.bank.wf busy.cfg.maxTL = true ∧ armedAll.cfg = busy.cfg ∧
      exec .save busy = .next (afterOk (.image busy.bank.image) busy)) ∧
    (let s := { start with port := { req 0x7000 0 0 0 with img := List.replicate 74 1 } }
     s.port.img.length = 44 + 5 * s.cfg.maxTL ∧ ∃ t, exec .restore s = .next t) :=
  ⟨⟨by decide, rfl, rfl⟩, by decide, _, rfl⟩

/-- The first and the last byte of a word. -/
theorem witness_ImageBytesMostSignificantFirst :
    ([5, 9] : List Word)[1]? = some 9 ∧ 0 < 8 ∧ 7 < 8 := ⟨rfl, by decide, by decide⟩

theorem witness_ResetLaw : ∃ t, exec .reset busy = .next t := ⟨_, rfl⟩

theorem witness_ReadsChangeNothing : reads (.rde 22) ∧ reads .save ∧ ∃ t, exec .save busy = .next t :=
  ⟨.inr (.inl rfl), .inr (.inr (.inr (.inl rfl))), _, rfl⟩

theorem witness_SamplesReachOnlyTheirCommands :
    (∃ t, exec .wreStickCmpr busy = .next t) ∧
      .wreStickCmpr ∉ ([.rdeTick, .rdePrivtick, .wreTick, .wrePrivtick, .wreTickCmpr] : List Instr) ∧
      .wreTickCmpr ∉ ([.wreStickCmpr, .wreHstickCmpr] : List Instr) := ⟨⟨_, rfl⟩, by decide, by decide⟩

theorem witness_ModesChangeNoRule :
    Instr.wreCwp.wf = true ∧ ¬touchesModes .wreCwp ∧ ∃ t, exec .wreCwp busy = .next t :=
  ⟨rfl, by unfold touchesModes; decide, _, rfl⟩

theorem witness_MasksHoldWithoutRestore :
    Instr.wrePstate ≠ .restore ∧ masked busy ∧ ∃ t, exec .wrePstate busy = .next t :=
  ⟨by decide, by unfold masked; decide, _, rfl⟩

theorem witness_PseudoCommandsExpand : asmValue "0x5_DC" = some 1500 ∧ asmCompare "HSTICK_CMPR" = some 34 := by
  decide

/-- The invariant in a state off the reset values, and a step from it. -/
theorem witness_StepKeepsInvariant : busy.wf ∧ ∃ t, step (presented busy 0x300C) = .next t :=
  ⟨⟨by decide, ⟨rfl, by decide, rfl⟩, rfl, by decide, rfl, by decide⟩, _, rfl⟩

/-! The agents (R7, R277). -/

/-- A turn with a command word and WDATA, at IC 1000. -/
def turn (a : Agent) (cmd : CmdWord) (v : Word) : Turn :=
  { issuer := a, cmd := cmd, wdata := v, img := [], ic := 1000, sref := 7 }

/-- R69, R183: a FIRE between two commands, once its event is armed; the same FIRE first is no move. -/
theorem test_runs_interleave_fire :
    legalRun [turn .executionContext 0x300A 1500, turn .eventScheduler 0x8000 0,
      turn .persistenceFramework 0x6000 0] start = true ∧
    legalRun [turn .eventScheduler 0x8000 0, turn .executionContext 0x300A 1500] start = false := by decide
/-- R277: the execution context issues no FIRE, the scheduler nothing else, and a word of R87 is nobody's command. -/
theorem test_moves_not_in_the_table :
    ([turn .executionContext 0x8000 0, turn .eventScheduler 0x8100 0, turn .eventScheduler 0x9000 0,
      turn .persistenceFramework 0x6100 0, turn .persistenceFramework 0x7100 0, turn .persistenceFramework 0x5000 0,
      turn .executionContext 0xA000 0, turn .executionContext 0x5001 0, turn .systemCollaborator 0x5000 0,
      turn .interruptCollaborator 0x1009 1, turn .registerWindow 0x1016 1].any fun m => m.legal armedTick) = false := by
  decide
/-- R277: the persistence framework owes RESTORE a whole image. -/
theorem test_restore_duty : (turn .persistenceFramework 0x7000 0).legal start = false := by decide

theorem witness_AgentsIssueTheirCommands : decode 0x8002 = .ok .fireHstick ∧ decode 0x7000 = .ok .restore := ⟨rfl, rfl⟩

/-- A legal turn of each agent that issues commands, and the one that may come back with IllegalCommand. -/
theorem witness_LegalTurnsGetTheirAnswer :
    (armedTick.offer [turn .eventScheduler 0x8000 0]).pending = (turn .eventScheduler 0x8000 0).request :: [] ∧
      (turn .eventScheduler 0x8000 0).legal (armedTick.offer [turn .eventScheduler 0x8000 0]) = true ∧
      (turn .persistenceFramework 0x6000 0).legal armedTick = true ∧
      (turn .executionContext 0x7000 0).legal armedTick = true := by decide

end Sys2Proof.Tests
end

section
/-! PROOFS. The statements of 10_state.md: the invariant of every step (R23, R32, R221, R223), the per-trap-level
accesses with TL out of range (R23, R226), and the masks of TBA and PSTATE (R27, R28). -/

open Sys2Proof.Claims

namespace Sys2Proof.Machine

/-! The decoder: a decoded term is well-formed, and a rejected word has an OP field of 5 or more. -/

theorem decodeRdp_wf : ∀ id : RegId, (decodeRdp id).wf = true := by decide

theorem decodeWrp_wf : ∀ id : RegId, (decodeWrp id).wf = true := by decide

theorem decodeRde_wf : ∀ id : RegId, (decodeRde id).wf = true := by decide

theorem decodeWre_wf : ∀ id : RegId, (decodeWre id).wf = true := by decide

theorem decodeNoId_ok {id : RegId} {i j : Instr} (h : decodeNoId id j = .ok i) : i = j := by
  unfold decodeNoId at h
  split at h <;> cases h
  rfl

theorem decodeTimer_ok {id : RegId} {i a b c : Instr} (h : decodeTimer id a b c = .ok i) :
    i = a ∨ i = b ∨ i = c := by
  unfold decodeTimer at h
  split at h <;> cases h <;> simp

theorem decodeOp_wf {op : BitVec 4} {id : RegId} {i : Instr} (h : decodeOp op id = .ok i) : i.wf = true := by
  unfold decodeOp at h
  split at h
  · cases h; exact decodeRdp_wf id
  · cases h; exact decodeWrp_wf id
  · cases h; exact decodeRde_wf id
  · cases h; exact decodeWre_wf id
  · cases h; rfl
  · cases decodeNoId_ok h; rfl
  · cases decodeNoId_ok h; rfl
  · cases decodeNoId_ok h; rfl
  · rcases decodeTimer_ok h with rfl | rfl | rfl <;> rfl
  · rcases decodeTimer_ok h with rfl | rfl | rfl <;> rfl
  all_goals cases h; rfl

/-- Only a term whose operands its row admits is ever decoded (R86, R87). -/
theorem decode_wf {w : CmdWord} {i : Instr} (h : decode w = .ok i) : i.wf = true := by
  unfold decode at h
  split at h
  · exact decodeOp_wf h
  · next hr => cases h; simpa [Instr.wf] using hr

/-- Only words with an OP field of 5 or more are rejected: OP 0 to 4 take every identifier (R85, R87 (c), (d)). -/
theorem opField_of_decode_error {w : CmdWord} {e : Reject} (h : decode w = .error e) : 5 ≤ (opField w).toNat := by
  unfold decode decodeOp at h
  split at h
  · split at h
    iterate 5 cases h
    iterate 5 next hop => omega
    all_goals cases h
  · cases h

/-! The timer events: each operation on them keeps them well-formed (R32, R170, R180). -/

theorem Events.wf_iff {c : Config} {es : Events} : es.wf c ↔ ∀ k, (es.get k).wf c := by
  constructor
  · rintro ⟨htick, hstick, hhstick⟩ k
    cases k <;> assumption
  · exact fun h => ⟨h .tick, h .stick, h .hstick⟩

theorem Events.set_wf {c : Config} {es : Events} {e : TimerEvent} (k : Timer) (hes : es.wf c) (he : e.wf c) :
    (es.set k e).wf c := by
  refine Events.wf_iff.2 fun j => ?_
  by_cases hj : j = k
  · subst hj; rwa [Events.get_set_same]
  · rw [Events.get_set_other _ _ hj]; exact Events.wf_iff.1 hes j

variable {c : Config} {s t : State}

theorem allocate_events_wf (k : Timer) (h : s.events.wf c) : (allocate k s).events.wf c := by
  refine Events.set_wf k h ?_
  have hk := Events.wf_iff.1 h k
  unfold TimerEvent.wf at hk ⊢
  split at hk
  · next ha => rw [if_pos ha]; exact ⟨rfl, hk.2⟩
  · next ha => rw [if_neg ha]; exact hk

theorem disarm_events_wf (k : Timer) (h : s.events.wf c) : (disarm k s).events.wf c :=
  Events.set_wf k h rfl

theorem deschedule_events_wf (k : Timer) (h : s.events.wf c) : (deschedule k s).events.wf c := by
  rcases deschedule_cases k s with ⟨-, e⟩ | ⟨-, e⟩ <;> rw [e]
  · exact disarm_events_wf k h
  · exact h

/-- A deschedule leaves the handle allocated (R32, R174). -/
theorem deschedule_alloc (k : Timer) (s : State) :
    ((deschedule k s).events.get k).alloc = (s.events.get k).alloc := by
  rcases deschedule_cases k s with ⟨-, e⟩ | ⟨-, e⟩ <;> rw [e]
  simp

@[simp] theorem deschedule_bank (k : Timer) (s : State) : (deschedule k s).bank = s.bank := by
  rw [deschedule_frame]

/-- The delay `delta * TIME_SCALE` of an arming compare write is one that an armed event may hold (R170). -/
theorem schedule_events_wf {k : Timer} {delta : Int} (h : s.events.wf c)
    (halloc : (s.events.get k).alloc = true) (hpos : 0 < delta) (hle : delta ≤ 2 ^ 63 - 1) :
    (schedule k (delta * c.timeScale) s).events.wf c := by
  refine Events.set_wf k h ?_
  have hscale : (0 : Int) ≤ c.timeScale := Int.natCast_nonneg _
  rw [TimerEvent.wf, if_pos rfl]
  exact ⟨halloc, dvd_mul_left _ _, le_mul_of_one_le_left hscale hpos, mul_le_mul_of_nonneg_right hle hscale⟩

theorem compareDelta_pos_of_arms {k : Timer} {v : Word} (h : compareArms k v s = true) :
    0 < compareDelta k v s := by
  simp only [compareArms, Bool.and_eq_true, decide_eq_true_eq] at h
  exact h.2

theorem compareWrite_events_wf (k : Timer) (v : Word) (h : s.events.wf s.cfg) :
    (compareWrite k v s).events.wf s.cfg := by
  have hstored : (storeScalar (cmprOf k) v (allocate k s)).events.wf s.cfg := allocate_events_wf k h
  have halloc : ((storeScalar (cmprOf k) v (allocate k s)).events.get k).alloc = true := by simp
  have hcancelled := deschedule_events_wf k hstored
  have harm : ∀ u : State, compareArms k v s = true → u.events.wf s.cfg → (u.events.get k).alloc = true →
      (schedule k (compareDelta k v s * s.cfg.timeScale) u).events.wf s.cfg := fun u ha hu hua =>
    schedule_events_wf hu hua (compareDelta_pos_of_arms ha) (compareDelta_le k v s)
  unfold compareWrite
  by_cases hc : compareCancels k v s = true <;> by_cases ha : compareArms k v s = true <;>
    simp only [hc, ha, if_true, if_false, Bool.false_eq_true]
  · exact harm _ ha hcancelled (by rwa [deschedule_alloc])
  · exact hcancelled
  · exact harm _ ha hstored halloc
  · exact hstored

/-! The fault record and the whole invariant. -/

/-- The record keeps the first error, so it fits after an error that fits its word (R221, R223). -/
theorem faultFits_or {f : Option FaultRecord} {e : Err} {w : CmdWord} (hf : faultFits c f) (he : e.fits c w) :
    faultFits c (f.or (some { err := e, cmd := w })) := by
  cases f with
  | none => exact he
  | some r => exact hf

theorem State.raise_wf {e : Err} {w : CmdWord} (h : s.wf) (he : e.fits s.cfg w) : (s.raise e w).wf := by
  obtain ⟨hbank, hevents, hfault⟩ := h
  exact ⟨hbank, hevents, faultFits_or hfault he⟩

/-- A compare write keeps the invariant (R33, R170). -/
theorem compareWrite_wf (k : Timer) (v : Word) (h : s.wf) : (compareWrite k v s).wf := by
  obtain ⟨hbank, hevents, hfault⟩ := h
  rw [compareWrite_frame]
  exact ⟨Bank.set_wf _ _ _ hbank, compareWrite_events_wf k v hevents, hfault⟩

theorem disarm_wf (k : Timer) (h : s.wf) : (disarm k s).wf := by
  obtain ⟨hbank, hevents, hfault⟩ := h
  exact ⟨hbank, disarm_events_wf k hevents, hfault⟩

theorem deschedule_wf (k : Timer) (h : s.wf) : (deschedule k s).wf := by
  rcases deschedule_cases k s with ⟨-, e⟩ | ⟨-, e⟩ <;> rw [e]
  · exact disarm_wf k h
  · exact h

/-- FIRE keeps the invariant: both errors it can end in fit its word (R180, R221). -/
theorem fire_wf (k : Timer) (h : s.wf) : (fire k (encode (fireOf k)) s).wf := by
  rcases fire_cases k (encode (fireOf k)) s with ⟨-, e⟩ | ⟨-, -, e⟩ | ⟨-, hbody, e⟩ <;> rw [e]
  · exact State.raise_wf h ⟨rfl, .inr (by cases k <;> decide)⟩
  · exact disarm_wf k h
  · exact State.raise_wf (disarm_wf k h) ⟨by cases k <;> rfl, hbody⟩

/-- Every command keeps the invariant, case by case of what a command can do. -/
theorem exec_keeps_wf {i : Instr} (hi : i.wf = true) (h : s.wf) (he : exec i s = .next t) : t.wf := by
  cases exec_effect he with
  | answered d next => subst next; exact h
  | stored b next op keeps mask => subst next; exact ⟨keeps h.1, h.2⟩
  | notified b x next who keeps mask => subst next; exact ⟨keeps h.1, h.2⟩
  | failed e next no_fire fits => subst next; exact State.raise_wf h (fits hi)
  | compared k who next => subst next; exact compareWrite_wf k s.wdata h
  | fired k who next => subst next who; exact fire_wf k h
  | wasReset who next =>
    cases next
    have hcleared : State.wf { s with bank := Bank.reset s.cfg } := ⟨Bank.reset_wf s.cfg, h.2⟩
    exact deschedule_wf .hstick (deschedule_wf .stick (deschedule_wf .tick hcleared))

/-- Settles O57: an idle step changes no field of the invariant, a rejected word records an IllegalCommand that fits
it, and a decoded word is a well-formed command. -/
theorem stepKeepsInvariant : Obligations.StepKeepsInvariant := by
  intro s t h hstep
  unfold step at hstep
  split at hstep
  · cases hstep; exact h
  · next r rest _ =>
    have hpresent : (s.present r rest).wf := h
    unfold State.perform at hstep
    split at hstep
    · next i hd => exact exec_keeps_wf (decode_wf hd) hpresent hstep
    · next e hd =>
      cases hstep
      exact State.raise_wf hpresent ⟨rfl, .inr (opField_of_decode_error hd)⟩

/-! The per-trap-level accesses. -/

/-- Each of the 20 accesses is the read or the write of one per-trap-level array (R101, R103, R130, R131). -/
theorem exec_of_mem_trapAccesses {i : Instr} (h : i ∈ trapAccesses) : ∃ a : TrapReg,
    (∀ s, exec i s = .next (finishRead (encode i) (readTrap a s) s)) ∨
    (∀ s, exec i s = .next (finishWrite (encode i) (writeTrap a s.wdata s) s)) := by
  simp only [trapAccesses, List.mem_cons, List.not_mem_nil, or_false] at h
  rcases h with rfl | rfl | rfl | rfl | rfl | rfl | rfl | rfl | rfl | rfl | rfl | rfl | rfl | rfl | rfl | rfl |
    rfl | rfl | rfl | rfl
  exacts [
    ⟨.tpc, .inl fun _ => rfl⟩, ⟨.tnpc, .inl fun _ => rfl⟩, ⟨.tstate, .inl fun _ => rfl⟩,
    ⟨.tt, .inl fun _ => rfl⟩, ⟨.htstate, .inl fun _ => rfl⟩,
    ⟨.tpc, .inr fun _ => rfl⟩, ⟨.tnpc, .inr fun _ => rfl⟩, ⟨.tstate, .inr fun _ => rfl⟩,
    ⟨.tt, .inr fun _ => rfl⟩, ⟨.htstate, .inr fun _ => rfl⟩,
    ⟨.tpc, .inl fun _ => rfl⟩, ⟨.tnpc, .inl fun _ => rfl⟩, ⟨.tstate, .inl fun _ => rfl⟩,
    ⟨.tt, .inl fun _ => rfl⟩, ⟨.htstate, .inl fun _ => rfl⟩,
    ⟨.tpc, .inr fun _ => rfl⟩, ⟨.tnpc, .inr fun _ => rfl⟩, ⟨.tstate, .inr fun _ => rfl⟩,
    ⟨.tt, .inr fun _ => rfl⟩, ⟨.htstate, .inr fun _ => rfl⟩]

/-- The model's way to fail is the one the statements write out (R220, R223). -/
theorem State.raise_eq_afterError (e : Err) (w : CmdWord) (s : State) : s.raise e w = afterError e w s := by
  unfold State.raise afterError
  cases s.fault <;> rfl

/-- TL at 0 or above MAXTL fails the launch premise `tl_ok` (R23, R278 (c)). -/
theorem State.not_tlOk (h : s.bank.tl = 0 ∨ s.cfg.maxTL < s.bank.tl.toNat) : ¬s.tlOk := by
  rintro ⟨hlow, hhigh⟩
  rcases h with h | h
  · simp [h] at hlow
  · omega

/-- A per-trap-level read with TL out of range fails (R101, R226). -/
theorem readTrap_of_not_tlOk (a : TrapReg) (h : ¬s.tlOk) :
    readTrap a s = .error (.invalidTrapLevel s.bank.tl) := by
  simp only [readTrap, tlCheck_of_not_range h]

/-- A per-trap-level write with TL out of range fails (R103, R226). -/
theorem writeTrap_of_not_tlOk (a : TrapReg) (v : Word) (h : ¬s.tlOk) :
    writeTrap a v s = .error (.invalidTrapLevel s.bank.tl) := by
  simp only [writeTrap, tlCheck_of_not_range h]

/-- Settles O18: every access goes through the check of TL, which fails. -/
theorem trapArrayAccessOutOfRange : Obligations.TrapArrayAccessOutOfRange := by
  intro i hi s htl
  have hout := State.not_tlOk htl
  rw [← State.raise_eq_afterError]
  obtain ⟨a, hread | hwrite⟩ := exec_of_mem_trapAccesses hi
  · rw [hread, readTrap_of_not_tlOk a hout, finishRead]
  · rw [hwrite, writeTrap_of_not_tlOk a s.wdata hout, finishWrite]

/-! The masks of TBA and PSTATE. -/

/-- A store through the masks leaves the masked registers masked (R27, R28, R104, R105). -/
theorem masked_of_maskedStore {b : Bank} (h : masked s) (hb : MaskedStore s b) (hbank : t.bank = b)
    (hcfg : t.cfg = s.cfg) : masked t := by
  obtain ⟨htba, hpstate⟩ := h
  unfold masked
  rw [hbank, hcfg]
  constructor
  · rcases hb.1 with e | ⟨v, e⟩ <;> rw [e]
    · exact htba
    · rw [BitVec.and_assoc]; exact BitVec.and_zero
  · rcases hb.2 with e | ⟨v, e⟩ <;> rw [e]
    · exact hpstate
    · rw [BitVec.and_assoc, BitVec.and_not_self]; exact BitVec.and_zero

/-- A state with the bank and the configuration of a masked state is masked. -/
theorem masked_of_same_bank (h : masked s) (hbank : t.bank = s.bank) (hcfg : t.cfg = s.cfg) : masked t :=
  masked_of_maskedStore h ⟨.inl rfl, .inl rfl⟩ hbank hcfg

@[simp] theorem fire_bank (k : Timer) (w : CmdWord) (s : State) : (fire k w s).bank = s.bank := by
  rcases fire_cases k w s with ⟨-, e⟩ | ⟨-, -, e⟩ | ⟨-, -, e⟩ <;> rw [e] <;> rfl

@[simp] theorem fire_cfg (k : Timer) (w : CmdWord) (s : State) : (fire k w s).cfg = s.cfg := by
  rcases fire_cases k w s with ⟨-, e⟩ | ⟨-, -, e⟩ | ⟨-, -, e⟩ <;> rw [e] <;> rfl

/-- A compare write stores into no masked register (R170). -/
theorem compareWrite_masked (k : Timer) (v : Word) (h : masked s) : masked (compareWrite k v s) := by
  rw [compareWrite_frame]
  exact masked_of_maskedStore (b := s.bank.set (cmprOf k) v) h (by cases k <;> exact ⟨.inl rfl, .inl rfl⟩) rfl rfl

/-- RESET puts 0 into TBA and PSTATE (R260). -/
theorem masked_of_reset (hbank : s.bank = Bank.reset c) : masked s := by
  unfold masked
  rw [hbank]
  exact ⟨BitVec.zero_and, BitVec.zero_and⟩

/-- Settles O54, case by case of what a command can do. -/
theorem masksHoldWithoutRestore : Obligations.MasksHoldWithoutRestore := by
  intro i s t hi h he
  cases exec_effect he with
  | answered d next => subst next; exact h
  | stored b next op keeps mask => subst next; exact masked_of_maskedStore h (mask hi) rfl rfl
  | notified b x next who keeps mask => subst next; exact masked_of_maskedStore h mask rfl rfl
  | failed e next no_fire fits => subst next; exact h
  | compared k who next => subst next; exact compareWrite_masked k s.wdata h
  | fired k who next => subst next; exact masked_of_same_bank h (fire_bank _ _ _) (fire_cfg _ _ _)
  | wasReset who next => cases next; exact masked_of_reset (c := s.cfg) (by simp)

end Sys2Proof.Machine
end

section
/-! PROOFS. The statements of 20_memory.md: a step runs the command it decodes (R64, R68, R72), and the reads change
nothing and repeat their answer (R65). -/

open Sys2Proof.Claims

namespace Sys2Proof.Machine

/-! One step. -/

/-- The command on the port is performed by its meaning (R64, R80). -/
theorem State.perform_of_decode {s : State} {i : Instr} (h : decode s.port.cmd = .ok i) : s.perform = exec i s := by
  simp only [State.perform, h]

/-- A step puts the first presented request onto the port and performs it (R68, R72). -/
theorem step_of_pending {s : State} {r : Request} {rest : List Request} (h : s.pending = r :: rest) :
    step s = (s.present r rest).perform := by
  simp only [step, h]

/-- Settles O5: the request stands on the port, and its word decodes to the command. -/
theorem stepRunsDecodedCommand : Obligations.StepRunsDecodedCommand := by
  intro s r rest i hpending hdecode
  rw [step_of_pending hpending]
  exact State.perform_of_decode hdecode

/-! The OP field of every command, and which commands read. -/

/-- The word of a command carries the OP field of its row (R81, R85). -/
theorem opField_encode (i : Instr) : opField (encode i) = Laws.OpField.code i := by
  cases i
  case rdp | wrp | rde | wre | name | reservedOpa | reservedOpb | reservedOpc | reservedOpd | reservedOpe |
      reservedOpf | reservedRsvd =>
    exact (Laws.fields_cmdWord _ _ _).1
  all_goals rfl

theorem reads_iff {i : Instr} : reads i ↔ Laws.OpField.code i ∈ [0, 2, 4, 6, 9] := by
  simp [reads, opField_encode]

/-! Queries: the commands that find their answer in the state and do nothing but give it. -/

/-- What `q` finds depends neither on the response nor on the fault record. -/
def IgnoresAnswer {α : Type} (q : State → α) : Prop :=
  ∀ (s : State) (r : Response) (f : Option FaultRecord), q { s with resp := r, fault := f } = q s

/-- End the command `w` with what it found: its data, or its error (R83, R220). -/
def respond (w : CmdWord) (found : Except Err RespData) (s : State) : State :=
  match found with
  | .ok d => s.answer d
  | .error e => s.raise e w

/-- An answer changes the response and, on an error, the fault record alone (R220, R223). -/
theorem respond_frame (w : CmdWord) (found : Except Err RespData) (s : State) :
    respond w found s =
      { s with resp := (respond w found s).resp, fault := (respond w found s).fault } := by
  cases found <;> rfl

/-- The response is a function of what was found. -/
theorem respond_resp_congr (w : CmdWord) (found : Except Err RespData) (s t : State) :
    (respond w found s).resp = (respond w found t).resp := by
  cases found <;> rfl

/-- The end of a read is the answer with the word it read. -/
theorem finishRead_eq_respond (w : CmdWord) (found : Except Err Word) (s : State) :
    finishRead w found s = respond w (found.map .word) s := by
  cases found <;> rfl

/-- The command does nothing but answer what it finds in the state, the response and the fault record aside. -/
def IsQuery (i : Instr) : Prop :=
  ∃ q : State → Except Err RespData, IgnoresAnswer q ∧ ∀ s, exec i s = .next (respond (encode i) (q s) s)

section queries

variable {i : Instr}

theorem isQuery_of_answer {d : State → RespData} (hd : IgnoresAnswer d)
    (h : ∀ s, exec i s = .next (s.answer (d s))) : IsQuery i :=
  ⟨fun s => .ok (d s), fun s r f => congrArg _ (hd s r f), h⟩

theorem isQuery_of_raise {e : Err} (h : ∀ s, exec i s = .next (s.raise e (encode i))) : IsQuery i :=
  ⟨fun _ => .error e, fun _ _ _ => rfl, h⟩

theorem isQuery_of_finishRead {q : State → Except Err Word} (hq : IgnoresAnswer q)
    (h : ∀ s, exec i s = .next (finishRead (encode i) (q s) s)) : IsQuery i :=
  ⟨fun s => (q s).map .word, fun s r f => congrArg _ (hq s r f), fun s => by rw [h, finishRead_eq_respond]⟩

theorem readPlain_ignoresAnswer (id : RegId) : IgnoresAnswer (readPlain id) := fun _ _ _ => rfl

theorem readTrap_ignoresAnswer (a : TrapReg) : IgnoresAnswer (readTrap a) := fun _ _ _ => rfl

/-- NAME looks at no field of the state (R110). -/
theorem isQuery_name (id : RegId) : IsQuery (.name id) := by
  cases hn : nameOf id with
  | some n => exact isQuery_of_answer (d := fun _ => .name n) (fun _ _ _ => rfl) fun s => by simp [exec, execName, hn]
  | none => exact isQuery_of_raise (e := .unknownRegister id) fun s => by simp [exec, execName, hn]

/-- Every command whose OP field reads is a query: it reads a register or a per-trap-level array, it gives data that it
computes from the state, or it always fails. -/
theorem isQuery_of_reads (h : reads i) : IsQuery i := by
  cases i
  case rdp id | rde id => exact isQuery_of_finishRead (readPlain_ignoresAnswer id) fun _ => rfl
  case rdpTpc | rdpTnpc | rdpTstate | rdpTt | rdpHtstate =>
    exact isQuery_of_finishRead (readTrap_ignoresAnswer _) fun _ => rfl
  case name id => exact isQuery_name id
  case rdpTick | rdpPrivtick | rdeTick | rdePrivtick | rdeHver | rdeStick | save | isschedTick | isschedStick |
      isschedHstick =>
    exact isQuery_of_answer (fun _ _ _ => rfl) fun _ => rfl
  case rdpPcr | rdpPic | rdpHintp | rdpHver | rdpSoftintSet | rdpSoftintClr | rdeFprs | rdeFsr | rdePcr | rdePic |
      rdeHintp | rdeSoftintSet | rdeSoftintClr | reservedRsvd =>
    exact isQuery_of_raise fun _ => rfl
  all_goals simp [reads_iff, Laws.OpField.code] at h

end queries

/-- Settles O51: a read is a query, so it changes the answer alone, and the next read finds the same. -/
theorem readsChangeNothing : Obligations.ReadsChangeNothing := by
  intro i s t hreads hexec
  obtain ⟨q, hq, hquery⟩ := isQuery_of_reads hreads
  have ht : t = respond (encode i) (q s) s := by
    rw [hquery] at hexec
    cases hexec; rfl
  have hframe : t = { s with resp := t.resp, fault := t.fault } := by
    rw [ht]; exact respond_frame _ _ _
  have hsame : q t = q s := by
    rw [hframe]; exact hq s _ _
  refine ⟨hframe, _, hquery t, ?_⟩
  rw [hsame, ht]
  exact respond_resp_congr _ _ _ _

end Sys2Proof.Machine
end


section
/-! PROOFS. The statements of 30_encoding.md: decoder and encoder are inverse to each other (R81, R85, R86), illegal
words answer IllegalCommand (R87), who may issue which word (R80, R277), which commands read the samples (R84), and the
pseudo-commands (R91). -/

open Sys2Proof.Claims

namespace Sys2Proof.Machine

/-! The command word and its three fields (R81). -/

/-- A word is made of its fields. -/
theorem cmdWord_fields (w : CmdWord) : cmdWord (opField w) (rsvdField w) (idField w) = w := by
  have hop : opField w ++ rsvdField w = w.extractLsb' 8 8 := BitVec.extractLsb'_append_extractLsb'_eq_extractLsb' rfl
  have hid : w.extractLsb' 8 8 ++ idField w = w.extractLsb' 0 16 :=
    BitVec.extractLsb'_append_extractLsb'_eq_extractLsb' rfl
  rw [cmdWord, hop, hid, BitVec.extractLsb'_eq_self]

theorem cmdWord_toNat (op rsvd : BitVec 4) (id : RegId) :
    (cmdWord op rsvd id).toNat = op.toNat * 4096 + rsvd.toNat * 256 + id.toNat := by
  have hrsvd : rsvd.toNat < 2 ^ 4 := rsvd.isLt
  have hid : id.toNat < 2 ^ 8 := id.isLt
  rw [cmdWord, BitVec.toNat_append, BitVec.toNat_append, ← Nat.shiftLeft_add_eq_or_of_lt hid,
    ← Nat.shiftLeft_add_eq_or_of_lt hrsvd, Nat.shiftLeft_eq, Nat.shiftLeft_eq]
  omega

/-- With RSVD = 0 the word is the sum of its OP part and its identifier. -/
theorem cmdWord_eq_add (op : BitVec 4) (id : RegId) :
    cmdWord op 0 id = BitVec.ofNat 16 (op.toNat * 4096) + BitVec.ofNat 16 id.toNat := by
  apply BitVec.eq_of_toNat_eq
  have hop := op.isLt
  have hid := id.isLt
  have hrsvd : (0 : BitVec 4).toNat = 0 := rfl
  rw [cmdWord_toNat, BitVec.toNat_add, BitVec.toNat_ofNat, BitVec.toNat_ofNat]
  omega

/-! What each decoding function accepts. -/

theorem decode_cmdWord (op rsvd : BitVec 4) (id : RegId) :
    decode (cmdWord op rsvd id) =
      if rsvd = 0 then decodeOp op id else .ok (.reservedRsvd op rsvd id) := by
  obtain ⟨hop, hrsvd, hid⟩ := Laws.fields_cmdWord op rsvd id
  rw [decode, hop, hrsvd, hid]

theorem decode_of_rsvd_zero {w : CmdWord} (h : rsvdField w = 0) : decode w = decodeOp (opField w) (idField w) := by
  rw [decode, if_pos h]

theorem decode_of_rsvd_ne {w : CmdWord} (h : rsvdField w ≠ 0) :
    decode w = .ok (.reservedRsvd (opField w) (rsvdField w) (idField w)) := by
  rw [decode, if_neg h]

/-- An identifier that is none of the full-mask rows takes the last branch, the generic row (R86). -/
theorem decodeRdp_of_wf {id : RegId} (hwf : (Instr.rdp id).wf = true) : decodeRdp id = .rdp id := by
  have hfree : id ∉ rdpOwnRows := by simpa [Instr.wf] using hwf
  simp [rdpOwnRows, ← BitVec.toNat_inj] at hfree
  simp [decodeRdp, hfree]

theorem decodeWrp_of_wf {id : RegId} (hwf : (Instr.wrp id).wf = true) : decodeWrp id = .wrp id := by
  have hfree : id ∉ wrpOwnRows := by simpa [Instr.wf] using hwf
  simp [wrpOwnRows, ← BitVec.toNat_inj] at hfree
  simp [decodeWrp, hfree]

theorem decodeRde_of_wf {id : RegId} (hwf : (Instr.rde id).wf = true) : decodeRde id = .rde id := by
  have hfree : id ∉ rdeOwnRows := by simpa [Instr.wf] using hwf
  simp [rdeOwnRows, ← BitVec.toNat_inj] at hfree
  simp [decodeRde, hfree]

theorem decodeWre_of_wf {id : RegId} (hwf : (Instr.wre id).wf = true) : decodeWre id = .wre id := by
  have hfree : id ∉ wreOwnRows := by simpa [Instr.wf] using hwf
  simp [wreOwnRows, ← BitVec.toNat_inj] at hfree
  simp [decodeWre, hfree]

/-- Every RDP row, generic or not, has the identifier in its word (R85). -/
theorem encode_decodeRdp : ∀ id : RegId, encode (decodeRdp id) = cmdWord 0x0 0 id := by decide

theorem encode_decodeWrp : ∀ id : RegId, encode (decodeWrp id) = cmdWord 0x1 0 id := by decide

theorem encode_decodeRde : ∀ id : RegId, encode (decodeRde id) = cmdWord 0x2 0 id := by decide

theorem encode_decodeWre : ∀ id : RegId, encode (decodeWre id) = cmdWord 0x3 0 id := by decide

theorem decodeNoId_eq_ok {id : RegId} {i j : Instr} (h : decodeNoId id j = .ok i) : id = 0 ∧ i = j := by
  unfold decodeNoId at h
  split at h
  · next hid => cases h; exact ⟨hid, rfl⟩
  · cases h

theorem decodeNoId_of_ne {id : RegId} {j : Instr} (h : id ≠ 0) : decodeNoId id j = .error .idNotZero := by
  rw [decodeNoId, if_neg h]

theorem decodeTimer_eq_ok {id : RegId} {i a b c : Instr} (h : decodeTimer id a b c = .ok i) :
    (id = 0 ∧ i = a) ∨ (id = 1 ∧ i = b) ∨ (id = 2 ∧ i = c) := by
  unfold decodeTimer at h
  split at h
  · next hid => cases h; exact .inl ⟨BitVec.eq_of_toNat_eq hid, rfl⟩
  · next hid => cases h; exact .inr (.inl ⟨BitVec.eq_of_toNat_eq hid, rfl⟩)
  · next hid => cases h; exact .inr (.inr ⟨BitVec.eq_of_toNat_eq hid, rfl⟩)
  · cases h

theorem decodeTimer_of_gt {id : RegId} {a b c : Instr} (h : 2 < id.toNat) :
    decodeTimer id a b c = .error .noSuchTimer := by
  unfold decodeTimer
  split
  iterate 3 next hid => omega
  rfl

/-! Decoding and encoding are inverse to each other. -/

/-- Every well-formed command is decoded from its word: a row without operand by computation, a row with operands
through the fields of its word. -/
theorem decode_encode {i : Instr} (hwf : i.wf = true) : decode (encode i) = .ok i := by
  cases i
  case rdp id => rw [encode, decode_cmdWord]; exact congrArg _ (decodeRdp_of_wf hwf)
  case wrp id => rw [encode, decode_cmdWord]; exact congrArg _ (decodeWrp_of_wf hwf)
  case rde id => rw [encode, decode_cmdWord]; exact congrArg _ (decodeRde_of_wf hwf)
  case wre id => rw [encode, decode_cmdWord]; exact congrArg _ (decodeWre_of_wf hwf)
  case name | reservedOpa | reservedOpb | reservedOpc | reservedOpd | reservedOpe | reservedOpf =>
    rw [encode, decode_cmdWord]; rfl
  case reservedRsvd op rsvd id =>
    have hrsvd : rsvd ≠ 0 := by simpa [Instr.wf] using hwf
    rw [encode, decode_cmdWord, if_neg hrsvd]
  all_goals rfl

/-- What OP and ID decode to has them in its word (R85). -/
theorem encode_of_decodeOp {op : BitVec 4} {id : RegId} {i : Instr} (h : decodeOp op id = .ok i) :
    encode i = cmdWord op 0 id := by
  obtain ⟨n, hn, rfl⟩ : ∃ n < 16, op = BitVec.ofNat 4 n := ⟨op.toNat, op.isLt, by simp⟩
  interval_cases n
  · cases h; exact encode_decodeRdp id
  · cases h; exact encode_decodeWrp id
  · cases h; exact encode_decodeRde id
  · cases h; exact encode_decodeWre id
  · cases h; rfl
  · obtain ⟨rfl, rfl⟩ := decodeNoId_eq_ok h; rfl
  · obtain ⟨rfl, rfl⟩ := decodeNoId_eq_ok h; rfl
  · obtain ⟨rfl, rfl⟩ := decodeNoId_eq_ok h; rfl
  · obtain ⟨rfl, rfl⟩ | ⟨rfl, rfl⟩ | ⟨rfl, rfl⟩ := decodeTimer_eq_ok h <;> rfl
  · obtain ⟨rfl, rfl⟩ | ⟨rfl, rfl⟩ | ⟨rfl, rfl⟩ := decodeTimer_eq_ok h <;> rfl
  all_goals cases h; rfl

/-- A decoded command has the word it was decoded from. -/
theorem encode_of_decode {w : CmdWord} {i : Instr} (h : decode w = .ok i) : encode i = w := by
  by_cases hrsvd : rsvdField w = 0
  · rw [decode_of_rsvd_zero hrsvd] at h
    rw [encode_of_decodeOp h, ← hrsvd, cmdWord_fields]
  · rw [decode_of_rsvd_ne hrsvd] at h
    cases h
    exact cmdWord_fields w

/-- The decoder is the inverse of the encoder on the well-formed commands. -/
theorem decode_eq_ok_iff {w : CmdWord} {i : Instr} : decode w = .ok i ↔ i.wf = true ∧ encode i = w := by
  constructor
  · exact fun h => ⟨decode_wf h, encode_of_decode h⟩
  · rintro ⟨hwf, rfl⟩
    exact decode_encode hwf

/-- Settles O1, constructor by constructor. -/
theorem decodeAfterEncode : Obligations.DecodeAfterEncode := fun _ => decode_encode

/-- Settles O2: the word is put together again from its fields. -/
theorem encodeAfterDecode : Obligations.EncodeAfterDecode := fun _ _ => decode_eq_ok_iff.1

/-! The illegal words (R87). -/

/-- An OP of 0xA or more spells no command whatever ID is (R87 (a)). -/
theorem decodeOp_of_ge {op : BitVec 4} (id : RegId) (h : 0xA ≤ op.toNat) :
    ∃ i, decodeOp op id = .ok i ∧ isReserved i = true := by
  obtain ⟨n, hn, rfl⟩ : ∃ n < 16, op = BitVec.ofNat 4 n := ⟨op.toNat, op.isLt, by simp⟩
  have hlow : 0xA ≤ n := by simpa [Nat.mod_eq_of_lt hn] using h
  interval_cases n <;> exact ⟨_, rfl, rfl⟩

/-- A reserved term fails with its word, whatever the state (R87 (a), (b)). -/
theorem exec_of_isReserved {i : Instr} (h : isReserved i = true) (s : State) :
    exec i s = .next (s.raise (.illegalCommand (encode i)) (encode i)) := by
  cases i
  case reservedOpa | reservedOpb | reservedOpc | reservedOpd | reservedOpe | reservedOpf | reservedRsvd => rfl
  all_goals cases h

/-- RESTORE of an image of another length than SAVE_LEN fails (R203). -/
theorem exec_restore_of_length_ne {s : State} (h : s.port.img.length ≠ 44 + 5 * s.cfg.maxTL) :
    exec .restore s = .next (s.raise (.illegalCommand (encode .restore)) (encode .restore)) := by
  have hlen : s.img.length ≠ saveLen s.cfg := fun e => h (e.trans (Nat.add_comm _ _))
  rw [exec, execRestore, if_neg hlen]

/-- FIRE of an unarmed event fails (R180). -/
theorem exec_fireOf_of_unarmed {k : Timer} {s : State} (h : (s.events.get k).armed = false) :
    exec (fireOf k) s = .next (s.raise (.illegalCommand (encode (fireOf k))) (encode (fireOf k))) := by
  have hexec : exec (fireOf k) s = .next (fire k (encode (fireOf k)) s) := by cases k <;> rfl
  rw [hexec, fire, if_neg (by simp [h])]

/-- The FIRE word of a timer has OP 8 and the timer's index as ID (R85). -/
theorem decodeOp_fireOf {id : RegId} {k : Timer} (h : id.toNat = timerIndex k) : decodeOp 8 id = .ok (fireOf k) := by
  obtain rfl : id = BitVec.ofNat 8 (timerIndex k) := BitVec.eq_of_toNat_eq (by rw [h]; cases k <;> rfl)
  cases k <;> rfl

/-- Performing the command on the port ends in IllegalCommand with its word recorded, and nothing else changes. -/
def State.PerformsIllegal (s : State) : Prop :=
  s.perform = .next (s.raise (.illegalCommand s.port.cmd) s.port.cmd)

section illegal

variable {s : State}

/-- A word the decoder rejects. -/
theorem State.performsIllegal_of_rejected {e : Reject} (h : decode s.port.cmd = .error e) : s.PerformsIllegal := by
  simp only [State.PerformsIllegal, State.perform, h, rejectWord]

/-- A word whose command fails with its own word. -/
theorem State.performsIllegal_of_exec {i : Instr} (hdecode : decode s.port.cmd = .ok i)
    (hexec : exec i s = .next (s.raise (.illegalCommand (encode i)) (encode i))) : s.PerformsIllegal := by
  rw [State.PerformsIllegal, State.perform_of_decode hdecode, hexec, encode_of_decode hdecode]

/-- All six cases of R87 end alike. RSVD not 0 comes before every other check (R229), and then ID before the image. -/
theorem State.performsIllegal_of_illegal (h : illegal s s.port) : s.PerformsIllegal := by
  by_cases hrsvd : rsvdField s.port.cmd = 0
  case neg => exact performsIllegal_of_exec (decode_of_rsvd_ne hrsvd) (exec_of_isReserved rfl s)
  have hdecode := decode_of_rsvd_zero hrsvd
  rcases h with hne | hop | ⟨hop, hid⟩ | ⟨hop, hid⟩ | ⟨hop, hlen⟩ | ⟨hop, u, hu, hid, harmed⟩
  · exact absurd hrsvd hne
  · obtain ⟨i, hi, hres⟩ := decodeOp_of_ge (idField s.port.cmd) hop
    exact performsIllegal_of_exec (hdecode.trans hi) (exec_of_isReserved hres s)
  · refine performsIllegal_of_rejected (e := .idNotZero) (hdecode.trans ?_)
    rcases hop with hop | hop | hop <;> rw [hop] <;> exact decodeNoId_of_ne hid
  · refine performsIllegal_of_rejected (e := .noSuchTimer) (hdecode.trans ?_)
    rcases hop with hop | hop <;> rw [hop] <;> exact decodeTimer_of_gt hid
  · rw [hop] at hdecode
    by_cases hid : idField s.port.cmd = 0
    · rw [hid] at hdecode
      exact performsIllegal_of_exec hdecode (exec_restore_of_length_ne hlen)
    · exact performsIllegal_of_rejected (hdecode.trans (decodeNoId_of_ne hid))
  · have hunarmed : (s.events.get u.k).armed = false := by
      simp only [units, List.mem_cons, List.not_mem_nil, or_false] at hu
      rcases hu with rfl | rfl | rfl <;> exact harmed
    rw [hop, decodeOp_fireOf hid] at hdecode
    exact performsIllegal_of_exec hdecode (exec_fireOf_of_unarmed hunarmed)

end illegal

/-- Settles O6: the request stands on the port when its word is performed. -/
theorem illegalWordsAnswerIllegalCommand : Obligations.IllegalWordsAnswerIllegalCommand := by
  intro s r rest hpending hillegal
  have hport : illegal (s.present r rest) (s.present r rest).port := hillegal
  rw [step_of_pending hpending, State.performsIllegal_of_illegal hport, State.raise_eq_afterError]
  rfl

/-- Settles O55: each of the seven rows is reserved. -/
theorem reservedWordsAnswerIllegalCommand : Obligations.ReservedWordsAnswerIllegalCommand := by
  intro s op rsvd id i hi
  have hres : isReserved i = true := by
    simp only [List.mem_cons, List.not_mem_nil, or_false] at hi
    rcases hi with rfl | rfl | rfl | rfl | rfl | rfl | rfl <;> rfl
  rw [exec_of_isReserved hres, State.raise_eq_afterError]

/-! Who may issue which word (R80, R277). -/

/-- A word spells a command of R85 when its RSVD is 0 and its OP is 0 to 9 (R87 (a), (b)). -/
theorem isReserved_eq_false_iff {i : Instr} (hwf : i.wf = true) :
    isReserved i = false ↔ Laws.OpField.rsvd i = 0 ∧ (Laws.OpField.code i).toNat ≤ 9 := by
  cases i
  case reservedRsvd op rsvd id =>
    have hrsvd : rsvd ≠ 0 := by simpa [Instr.wf] using hwf
    exact iff_of_false Bool.noConfusion fun h => hrsvd h.1
  all_goals simp [isReserved, Laws.OpField.rsvd, Laws.OpField.code]

/-- Among the words that spell a command, FIRE has OP 8 (R85). -/
theorem firedTimer_eq_none_iff {i : Instr} (h : isReserved i = false) :
    firedTimer i = none ↔ Laws.OpField.code i ≠ 8 := by
  cases i
  case reservedRsvd => cases h
  all_goals simp [firedTimer, Laws.OpField.code]

/-- The word of a command carries the RSVD field of its row (R81, R87 (b)). -/
theorem rsvdField_encode (i : Instr) : rsvdField (encode i) = Laws.OpField.rsvd i := by
  cases i
  case rdp | wrp | rde | wre | name | reservedOpa | reservedOpb | reservedOpc | reservedOpd | reservedOpe |
      reservedOpf | reservedRsvd =>
    exact (Laws.fields_cmdWord _ _ _).2.1
  all_goals rfl

section issuers

variable {w : CmdWord} {i : Instr}

/-- The execution context issues the words with RSVD 0 and an OP of 0 to 9 but 8. -/
theorem executionContext_mayIssue_iff (h : decode w = .ok i) :
    Agent.executionContext.mayIssue i = true ↔ rsvdField w = 0 ∧ (opField w).toNat ≤ 9 ∧ opField w ≠ 8 := by
  rw [← encode_of_decode h, rsvdField_encode, opField_encode, ← and_assoc,
    ← isReserved_eq_false_iff (decode_wf h)]
  simp only [Agent.mayIssue, Bool.and_eq_true, Bool.not_eq_true', Option.isNone_iff_eq_none]
  exact and_congr_right firedTimer_eq_none_iff

/-- The scheduler issues the three FIRE words. -/
theorem eventScheduler_mayIssue_iff (h : decode w = .ok i) :
    Agent.eventScheduler.mayIssue i = true ↔ w = 0x8000 ∨ w = 0x8001 ∨ w = 0x8002 := by
  constructor
  · intro hissue
    obtain ⟨k, rfl⟩ := Agent.scheduler_cases hissue
    rw [← encode_of_decode h]
    cases k <;> decide
  · rintro (rfl | rfl | rfl) <;> cases h <;> rfl

/-- The persistence framework issues the words of SAVE and RESTORE. -/
theorem persistenceFramework_mayIssue_iff (h : decode w = .ok i) :
    Agent.persistenceFramework.mayIssue i = true ↔ w = 0x6000 ∨ w = 0x7000 := by
  constructor
  · intro hissue
    rw [← encode_of_decode h]
    obtain rfl | rfl := Agent.persistence_cases hissue <;> decide
  · rintro (rfl | rfl) <;> cases h <;> rfl

end issuers

/-- Settles O59, agent by agent. -/
theorem agentsIssueTheirCommands : Obligations.AgentsIssueTheirCommands := fun _ _ h =>
  ⟨executionContext_mayIssue_iff h, eventScheduler_mayIssue_iff h, persistenceFramework_mayIssue_iff h, rfl, rfl, rfl⟩

/-! Who reads the samples IC and SREF (R84). -/

/-- The state with the samples on the port changed: IC by `f`, SREF by `g`. -/
def State.resample (f g : Word → Word) (s : State) : State :=
  { s with port := { s.port with ic := f s.port.ic, sref := g s.port.sref } }

section samples

variable {f g : Word → Word} {s t : State}

theorem resample_answer (d : RespData) (s : State) : (s.resample f g).answer d = (s.answer d).resample f g := rfl

theorem finishRead_resample (w : CmdWord) (found : Except Err Word) (s : State) :
    finishRead w found (s.resample f g) = (finishRead w found s).resample f g := by
  cases found <;> rfl

theorem finishWrite_resample (w : CmdWord) (done : Except Err State) (s : State) :
    finishWrite w (done.map (State.resample f g)) (s.resample f g) = (finishWrite w done s).resample f g := by
  cases done <;> rfl

theorem writeTrap_resample (a : TrapReg) (v : Word) (s : State) :
    writeTrap a v (s.resample f g) = (writeTrap a v s).map (State.resample f g) := by
  have hcheck : tlCheck (s.resample f g) = tlCheck s := rfl
  rw [writeTrap, writeTrap, hcheck]
  cases tlCheck s <;> rfl

theorem writePlain_resample (id : RegId) (v : Word) (s : State) :
    writePlain id v (s.resample f g) = (writePlain id v s).map (State.resample f g) := by
  unfold writePlain
  cases target id with
  | none => rfl
  | some x =>
    cases x with
    | trap a => exact writeTrap_resample a v s
    | _ => rfl

theorem deschedule_resample (k : Timer) (s : State) :
    deschedule k (s.resample f g) = (deschedule k s).resample f g := by
  rw [deschedule, deschedule, apply_ite (State.resample f g)]
  rfl

theorem fire_resample (k : Timer) (w : CmdWord) (s : State) :
    fire k w (s.resample f g) = (fire k w s).resample f g := by
  rw [fire, fire, apply_ite (State.resample f g), apply_ite (State.resample f g)]
  rfl

/-- A compare write depends on the samples only through its reference counter (R170). -/
theorem compareWrite_resample {k : Timer} (v : Word) (href : refCounter k (s.resample f g) = refCounter k s) :
    compareWrite k v (s.resample f g) = (compareWrite k v s).resample f g := by
  have hdelta : compareDelta k v (s.resample f g) = compareDelta k v s := by rw [compareDelta, href]; rfl
  have harms : compareArms k v (s.resample f g) = compareArms k v s := by rw [compareArms, hdelta]; rfl
  have hcancels : compareCancels k v (s.resample f g) = compareCancels k v s := by rw [compareCancels, harms]; rfl
  have hstored : storeScalar (cmprOf k) v (allocate k (s.resample f g)) =
      (storeScalar (cmprOf k) v (allocate k s)).resample f g := rfl
  have hcfg : (s.resample f g).cfg = s.cfg := rfl
  simp only [compareWrite, hdelta, harms, hcancels, hstored, hcfg, deschedule_resample]
  split <;> split <;> rfl

theorem exec_wreOf_resample {k : Timer} (href : refCounter k (s.resample f g) = refCounter k s) :
    exec (wreOf k) (s.resample f g) = .next (((compareWrite k s.wdata s).answer .none).resample f g) := by
  rw [← resample_answer, ← compareWrite_resample _ href]
  cases k <;> rfl

theorem exec_reset_resample (s : State) :
    exec .reset (s.resample f g) = .next (((deschedule .hstick (deschedule .stick (deschedule .tick
      { s with bank := Bank.reset s.cfg }))).answer .none).resample f g) := by
  rw [← resample_answer, ← deschedule_resample, ← deschedule_resample, ← deschedule_resample]
  rfl

/-- Every command gives the same next state, the samples aside, when IC stays for those that read IC, and SREF for
those that read SREF. -/
theorem exec_resample {i : Instr}
    (hic : i ∈ ([.rdeTick, .rdePrivtick, .wreTick, .wrePrivtick, .wreTickCmpr] : List Instr) → ∀ x, f x = x)
    (hsref : i ∈ ([.wreStickCmpr, .wreHstickCmpr] : List Instr) → ∀ x, g x = x) (h : exec i s = .next t) :
    exec i (s.resample f g) = .next (t.resample f g) := by
  cases i <;> cases h
  case rdeTick | rdePrivtick | wreTick | wrePrivtick =>
    obtain rfl : f = id := funext (hic (by simp))
    rfl
  case wreTickCmpr =>
    obtain rfl : f = id := funext (hic (by simp))
    exact exec_wreOf_resample (k := .tick) rfl
  case wreStickCmpr =>
    obtain rfl : g = id := funext (hsref (by simp))
    exact exec_wreOf_resample (k := .stick) rfl
  case wreHstickCmpr =>
    obtain rfl : g = id := funext (hsref (by simp))
    exact exec_wreOf_resample (k := .hstick) rfl
  case rdp | rde | rdpTpc | rdpTnpc | rdpTstate | rdpTt | rdpHtstate =>
    exact congrArg Host.Outcome.next (finishRead_resample _ _ s)
  case wrp id | wre id =>
    rw [← finishWrite_resample, ← writePlain_resample]; rfl
  case wrpTpc | wrpTnpc | wrpTstate | wrpTt | wrpHtstate =>
    rw [← finishWrite_resample, ← writeTrap_resample]; rfl
  case name id => rw [exec, execName]; cases nameOf id <;> rfl
  case restore => rw [apply_ite (State.resample f g)]; rfl
  case reset => exact exec_reset_resample s
  case fireTick | fireStick | fireHstick => exact congrArg Host.Outcome.next (fire_resample _ _ s)
  all_goals rfl

end samples

/-- Settles O52: the command does not read the sample that is replaced, and the other sample stays. -/
theorem samplesReachOnlyTheirCommands : Obligations.SamplesReachOnlyTheirCommands := fun _ _ _ x h =>
  ⟨fun hic => exec_resample (f := fun _ => x) (g := id) (fun hi => absurd hi hic) (fun _ _ => rfl) h,
    fun hsref => exec_resample (f := id) (g := fun _ => x) (fun _ _ => rfl) (fun hi => absurd hi hsref) h⟩

/-! The pseudo-commands (R91). -/

theorem asmWrite_of_operands {a : AsmState} {op : BitVec 4} {readId : String → Option RegId} {f : Word → Word}
    {n x : String} {id : RegId} {v : Word} (hid : readId n = some id) (hv : asmValue x = some v) :
    asmWrite a op readId f [n, x] = .ok (a, some (asmRequest a op id (f v) [])) := by
  simp only [asmWrite, hid, hv]

theorem asmFixed_of_operand {a : AsmState} {op : BitVec 4} {id : RegId} {x : String} {v : Word}
    (hv : asmValue x = some v) : asmFixed a op id [x] = .ok (a, some (asmRequest a op id v [])) := by
  simp only [asmFixed, hv]

/-- Settles O56: each pseudo-command is a write of VALUE through its mask, whose word is the sum of OP and ID. -/
theorem pseudoCommandsExpand : Obligations.PseudoCommandsExpand := by
  intro a n x v hv
  refine ⟨fun id hid => ?_, asmFixed_of_operand hv, asmFixed_of_operand hv⟩
  have hword : cmdWord 0x3 0 id = 0x3000 + BitVec.ofNat 16 id.toNat := cmdWord_eq_add 0x3 id
  rw [← hword]
  exact ⟨asmWrite_of_operands hid hv, asmWrite_of_operands hid hv⟩

end Sys2Proof.Machine
end

section
/-! PROOFS. The statements of 40_plain_access.md: what a plain read finds and what a plain write leaves, for each kind
of target an identifier has (R100 to R108), the names (R110), the write-read law (R112) and the separation of the trap
levels (R113). -/

open Sys2Proof.Claims

namespace Sys2Proof.Machine

/-! The identifier map (R30). -/

/-- 56 to 255 name no register (R60). -/
theorem target_of_ge : ∀ id : RegId, 56 ≤ id.toNat → target id = none := by decide

/-- The scratch-pad slots are 48 to 55 (R24). -/
theorem target_scratch : ∀ n : Fin 8, target (BitVec.ofNat 8 (48 + n)) = some (.scratch n) := by decide

/-- The registers without a plain read (R107, R108). -/
theorem target_unreadable : ∀ id : RegId,
    target id = some .softintSet ∨ target id = some .softintClr ∨ target id = some .noStorage →
      id ∈ ([5, 6, 7, 8, 31, 32] : List RegId) := by
  decide

theorem target_eq_tba_iff : ∀ id : RegId, target id = some (.scalar .tba) ↔ id = 18 := by decide

theorem target_eq_pstate_iff : ∀ id : RegId, target id = some (.scalar .pstate) ↔ id = 19 := by decide

/-- A register that can be read is a scalar, an element of a per-trap-level array, or a slot. -/
theorem target_of_readable {id : RegId} (hid : id.toNat < 56) (hread : id ∉ ([5, 6, 7, 8, 31, 32] : List RegId)) :
    (∃ f, target id = some (.scalar f)) ∨ (∃ a, target id = some (.trap a)) ∨
      ∃ n, target id = some (.scratch n) := by
  have hreadable := mt (target_unreadable id) hread
  cases h : target id with
  | none => exact absurd (target_none h) (Nat.not_le.2 hid)
  | some x =>
    cases x with
    | scalar f => exact .inl ⟨f, rfl⟩
    | trap a => exact .inr (.inl ⟨a, rfl⟩)
    | scratch n => exact .inr (.inr ⟨n, rfl⟩)
    | softintSet => exact absurd (.inl h) hreadable
    | softintClr => exact absurd (.inr (.inl h)) hreadable
    | noStorage => exact absurd (.inr (.inr h)) hreadable

/-- What a table row of `verbatimScalars` says of the scalar field `f`: its identifier reaches `f`, it reads and stores
`f`, and a store into `f` has no mask. -/
structure VerbatimRow (f : Scalar) (row : RegId × (Bank → Word) × (Bank → Word → Bank)) : Prop where
  target_eq : target row.1 = some (.scalar f)
  read_eq : row.2.1 = (·.get f)
  store_eq : row.2.2 = (·.set f)
  stored_eq : ∀ c v, storedValue c f v = v

theorem exists_verbatimRow : ∀ row ∈ verbatimScalars, ∃ f, VerbatimRow f row := by
  simp only [verbatimScalars, List.forall_mem_cons, List.not_mem_nil, false_imp_iff, implies_true, and_true]
  and_intros <;> exact ⟨_, rfl, rfl, rfl, fun _ _ => rfl⟩

/-- What a table row of `trapArrays` says of the array `a`: its identifier reaches `a`, its commands are the ones the
RDP and the WRP word of the identifier spell, and it reads and stores `a`. -/
structure TrapRow (a : TrapReg)
    (row : RegId × Instr × Instr × (Bank → List Word) × (Bank → List Word → Bank)) : Prop where
  target_eq : target row.1 = some (.trap a)
  rdp_eq : row.2.1 = decodeRdp row.1
  wrp_eq : row.2.2.1 = decodeWrp row.1
  read_eq : row.2.2.2.1 = (·.array a)
  store_eq : row.2.2.2.2 = (·.setArray a)

theorem exists_trapRow : ∀ row ∈ trapArrays, ∃ a, TrapRow a row := by
  simp only [trapArrays, List.forall_mem_cons, List.not_mem_nil, false_imp_iff, implies_true, and_true]
  and_intros <;> exact ⟨_, rfl, rfl, rfl, rfl, rfl⟩

/-! How a command ends, in the words of the statements. -/

theorem finishRead_ok (w : CmdWord) (v : Word) (s : State) : finishRead w (.ok v) s = afterOk (.word v) s := rfl

theorem finishRead_error (w : CmdWord) (e : Err) (s : State) : finishRead w (.error e) s = afterError e w s :=
  State.raise_eq_afterError e w s

theorem finishWrite_ok (w : CmdWord) (b : Bank) (s : State) :
    finishWrite w (.ok { s with bank := b }) s = afterStore b s := rfl

theorem finishWrite_error (w : CmdWord) (e : Err) (s : State) : finishWrite w (.error e) s = afterError e w s :=
  State.raise_eq_afterError e w s

/-! The per-trap-level arrays at a legal trap level. -/

theorem readTrap_of_tlOk {s : State} (a : TrapReg) (h : s.tlOk) :
    readTrap a s = .ok (s.bank.element a (s.bank.tl.toNat - 1)) := by
  simp only [readTrap, tlCheck_of_range h]

theorem writeTrap_of_tlOk {s : State} (a : TrapReg) (v : Word) (h : s.tlOk) :
    writeTrap a v s = .ok { s with bank := s.bank.setElement a (s.bank.tl.toNat - 1) v } := by
  simp only [writeTrap, tlCheck_of_range h]

/-! The plain reads: commands that are `readPlain` of an identifier. -/

/-- The command is the plain read of `id`: every RDP, and RDE without a case of its own (R130). -/
def IsPlainRead (i : Instr) (id : RegId) : Prop :=
  ∀ s, exec i s = .next (finishRead (encode i) (readPlain id s) s)

theorem isPlainRead_rdp (id : RegId) : IsPlainRead (.rdp id) id := fun _ => rfl

theorem isPlainRead_rde (id : RegId) : IsPlainRead (.rde id) id := fun _ => rfl

/-- Whatever row an RDP word takes, a full-mask row or the generic one, it is the plain read of its identifier (R86). -/
theorem isPlainRead_decodeRdp (id : RegId) : IsPlainRead (decodeRdp id) id := by
  by_cases hwf : (Instr.rdp id).wf = true
  · rw [decodeRdp_of_wf hwf]
    exact isPlainRead_rdp id
  · have hown : id ∈ rdpOwnRows := by simpa [Instr.wf] using hwf
    simp only [rdpOwnRows, List.mem_cons, List.not_mem_nil, or_false] at hown
    rcases hown with rfl | rfl | rfl | rfl | rfl | rfl | rfl | rfl | rfl | rfl | rfl | rfl | rfl <;>
    exact fun _ => rfl

namespace IsPlainRead

variable {i : Instr} {id : RegId} {s : State}

theorem exec_of_ok {v : Word} (hi : IsPlainRead i id) (h : readPlain id s = .ok v) :
    exec i s = .next (afterOk (.word v) s) := by
  rw [hi, h, finishRead_ok]

theorem exec_of_error {e : Err} (hi : IsPlainRead i id) (h : readPlain id s = .error e) :
    exec i s = .next (afterError e (encode i) s) := by
  rw [hi, h, finishRead_error]

/-- A scalar field (R100). -/
theorem exec_scalar {f : Scalar} (hi : IsPlainRead i id) (ht : target id = some (.scalar f)) (s : State) :
    exec i s = .next (afterOk (.word (s.bank.get f)) s) :=
  hi.exec_of_ok (by simp only [readPlain, ht])

/-- A scratch-pad slot (R100). -/
theorem exec_scratch {n : Fin 8} (hi : IsPlainRead i id) (ht : target id = some (.scratch n)) (s : State) :
    exec i s = .next (afterOk (.word (s.bank.slot n)) s) :=
  hi.exec_of_ok (by simp only [readPlain, ht])

/-- The element of the current trap level (R101). -/
theorem exec_trap {a : TrapReg} (hi : IsPlainRead i id) (ht : target id = some (.trap a)) (htl : s.tlOk) :
    exec i s = .next (afterOk (.word (s.bank.element a (s.bank.tl.toNat - 1))) s) :=
  hi.exec_of_ok (by simp only [readPlain, ht, readTrap_of_tlOk a htl])

/-- A per-trap-level register at an illegal trap level (R101, R226). -/
theorem exec_trap_error {a : TrapReg} (hi : IsPlainRead i id) (ht : target id = some (.trap a)) (htl : ¬s.tlOk) :
    exec i s = .next (afterError (.invalidTrapLevel s.bank.tl) (encode i) s) :=
  hi.exec_of_error (by simp only [readPlain, ht, readTrap_of_not_tlOk a htl])

/-- An identifier that names no register (R111). -/
theorem exec_unknown (hi : IsPlainRead i id) (hid : 56 ≤ id.toNat) (s : State) :
    exec i s = .next (afterError (.unknownRegister id) (encode i) s) :=
  hi.exec_of_error (by simp only [readPlain, target_of_ge id hid])

end IsPlainRead

/-! The plain writes: commands that are `writePlain` of WDATA to an identifier. -/

/-- The command is the plain write of WDATA to `id`: every WRP, and WRE without a case of its own (R131). -/
def IsPlainWrite (i : Instr) (id : RegId) : Prop :=
  ∀ s, exec i s = .next (finishWrite (encode i) (writePlain id s.port.wdata s) s)

theorem isPlainWrite_wrp (id : RegId) : IsPlainWrite (.wrp id) id := fun _ => rfl

theorem isPlainWrite_wre (id : RegId) : IsPlainWrite (.wre id) id := fun _ => rfl

/-- Whatever row a WRP word takes, a full-mask row or the generic one, it is the plain write to its identifier (R86). -/
theorem isPlainWrite_decodeWrp (id : RegId) : IsPlainWrite (decodeWrp id) id := by
  by_cases hwf : (Instr.wrp id).wf = true
  · rw [decodeWrp_of_wf hwf]
    exact isPlainWrite_wrp id
  · have hown : id ∈ wrpOwnRows := by simpa [Instr.wf] using hwf
    simp only [wrpOwnRows, List.mem_cons, List.not_mem_nil, or_false] at hown
    rcases hown with rfl | rfl | rfl | rfl | rfl | rfl | rfl | rfl | rfl | rfl | rfl | rfl | rfl | rfl | rfl <;>
    exact fun _ => rfl

namespace IsPlainWrite

variable {i : Instr} {id : RegId} {s : State}

theorem exec_of_ok {b : Bank} (hi : IsPlainWrite i id) (h : writePlain id s.port.wdata s = .ok { s with bank := b }) :
    exec i s = .next (afterStore b s) := by
  rw [hi, h, finishWrite_ok]

theorem exec_of_error {e : Err} (hi : IsPlainWrite i id) (h : writePlain id s.port.wdata s = .error e) :
    exec i s = .next (afterError e (encode i) s) := by
  rw [hi, h, finishWrite_error]

/-- A scalar field, through its mask where it has one (R102, R104, R105). -/
theorem exec_scalar {f : Scalar} (hi : IsPlainWrite i id) (ht : target id = some (.scalar f)) (s : State) :
    exec i s = .next (afterStore (s.bank.set f (storedValue s.cfg f s.port.wdata)) s) :=
  hi.exec_of_ok (by simp only [writePlain, ht, storeScalar])

/-- A scratch-pad slot (R102). -/
theorem exec_scratch {n : Fin 8} (hi : IsPlainWrite i id) (ht : target id = some (.scratch n)) (s : State) :
    exec i s = .next (afterStore (s.bank.setSlot n s.port.wdata) s) :=
  hi.exec_of_ok (by simp only [writePlain, ht])

/-- SOFTINT through SOFTINT_SET (R108). -/
theorem exec_softintSet (hi : IsPlainWrite i id) (ht : target id = some .softintSet) (s : State) :
    exec i s = .next (afterStore (s.bank.set .softint (softintSetValue s.cfg s.bank.softint s.port.wdata)) s) :=
  hi.exec_of_ok (by simp only [writePlain, ht, storeSoftintSet])

/-- SOFTINT through SOFTINT_CLR (R108). -/
theorem exec_softintClr (hi : IsPlainWrite i id) (ht : target id = some .softintClr) (s : State) :
    exec i s = .next (afterStore (s.bank.set .softint (softintClrValue s.cfg s.bank.softint s.port.wdata)) s) :=
  hi.exec_of_ok (by simp only [writePlain, ht, storeSoftintClr])

/-- The element of the current trap level (R103). -/
theorem exec_trap {a : TrapReg} (hi : IsPlainWrite i id) (ht : target id = some (.trap a)) (htl : s.tlOk) :
    exec i s = .next (afterStore (s.bank.setElement a (s.bank.tl.toNat - 1) s.port.wdata) s) :=
  hi.exec_of_ok (by simp only [writePlain, ht, writeTrap_of_tlOk a _ htl])

/-- A per-trap-level register at an illegal trap level (R103, R226). -/
theorem exec_trap_error {a : TrapReg} (hi : IsPlainWrite i id) (ht : target id = some (.trap a)) (htl : ¬s.tlOk) :
    exec i s = .next (afterError (.invalidTrapLevel s.bank.tl) (encode i) s) :=
  hi.exec_of_error (by simp only [writePlain, ht, writeTrap_of_not_tlOk a _ htl])

/-- An identifier that names no register (R111). -/
theorem exec_unknown (hi : IsPlainWrite i id) (hid : 56 ≤ id.toNat) (s : State) :
    exec i s = .next (afterError (.unknownRegister id) (encode i) s) :=
  hi.exec_of_error (by simp only [writePlain, target_of_ge id hid])

end IsPlainWrite

theorem TrapRow.isPlainRead {a : TrapReg}
    {row : RegId × Instr × Instr × (Bank → List Word) × (Bank → List Word → Bank)} (h : TrapRow a row) :
    IsPlainRead row.2.1 row.1 := by
  rw [h.rdp_eq]
  exact isPlainRead_decodeRdp row.1

theorem TrapRow.isPlainWrite {a : TrapReg}
    {row : RegId × Instr × Instr × (Bank → List Word) × (Bank → List Word → Bank)} (h : TrapRow a row) :
    IsPlainWrite row.2.2.1 row.1 := by
  rw [h.wrp_eq]
  exact isPlainWrite_decodeWrp row.1

/-! The command words of RDP, WRP, RDE, WRE and NAME: the OP part and the identifier (R81, R85). -/

theorem cmdWord_zero_eq (id : RegId) : cmdWord 0x0 0 id = BitVec.ofNat 16 id.toNat :=
  (cmdWord_eq_add 0x0 id).trans (BitVec.zero_add _)

theorem encode_rdp (id : RegId) : encode (.rdp id) = BitVec.ofNat 16 id.toNat := cmdWord_zero_eq id

theorem encode_wrp (id : RegId) : encode (.wrp id) = 0x1000 + BitVec.ofNat 16 id.toNat := cmdWord_eq_add 0x1 id

theorem encode_rde (id : RegId) : encode (.rde id) = 0x2000 + BitVec.ofNat 16 id.toNat := cmdWord_eq_add 0x2 id

theorem encode_wre (id : RegId) : encode (.wre id) = 0x3000 + BitVec.ofNat 16 id.toNat := cmdWord_eq_add 0x3 id

theorem encode_name (id : RegId) : encode (.name id) = 0x4000 + BitVec.ofNat 16 id.toNat := cmdWord_eq_add 0x4 id

/-- The word `0x00nn` spells the RDP row of `nn`. -/
theorem decode_rdp_word (id : RegId) : decode (BitVec.ofNat 16 id.toNat) = .ok (decodeRdp id) := by
  rw [← cmdWord_zero_eq, decode_cmdWord]; rfl

/-- The word `0x10nn` spells the WRP row of `nn`. -/
theorem decode_wrp_word (id : RegId) : decode (0x1000 + BitVec.ofNat 16 id.toNat) = .ok (decodeWrp id) := by
  rw [← encode_wrp, encode, decode_cmdWord]; rfl

/-! RDP and WRP. -/

/-- Settles O15: RDP is the plain read, and each identifier of R100 reaches its own field. -/
theorem rdpReturnsStoredField : Obligations.RdpReturnsStoredField := by
  refine ⟨encode_rdp, fun row hrow s => ?_, (isPlainRead_rdp 18).exec_scalar rfl, (isPlainRead_rdp 19).exec_scalar rfl,
    fun n => (isPlainRead_rdp _).exec_scratch (target_scratch n), fun id s hid => ?_⟩
  · obtain ⟨f, hf⟩ := exists_verbatimRow row hrow
    rw [hf.read_eq]
    exact (isPlainRead_rdp _).exec_scalar hf.target_eq s
  · rw [← encode_rdp]
    exact (isPlainRead_rdp id).exec_unknown hid s

/-- Settles O21: WRP is the plain write, and each identifier of R102 reaches its own field, which has no mask. -/
theorem wrpStoresVerbatim : Obligations.WrpStoresVerbatim := by
  refine ⟨encode_wrp, fun row hrow s => ?_, fun n => (isPlainWrite_wrp _).exec_scratch (target_scratch n),
    fun id s hid => ?_⟩
  · obtain ⟨f, hf⟩ := exists_verbatimRow row hrow
    rw [(isPlainWrite_wrp _).exec_scalar hf.target_eq, hf.stored_eq, hf.store_eq]
  · rw [← encode_wrp]
    exact (isPlainWrite_wrp id).exec_unknown hid s

/-- Settles O19: TICK and PRIVTICK reach the one scalar field, which has no mask. -/
theorem plainTickIsRaw : Obligations.PlainTickIsRaw :=
  ⟨rfl, rfl, rfl, rfl, fun s =>
    ⟨(isPlainRead_decodeRdp 3).exec_scalar rfl s, (isPlainRead_decodeRdp 17).exec_scalar rfl s,
      (isPlainWrite_decodeWrp 3).exec_scalar rfl s, (isPlainWrite_decodeWrp 17).exec_scalar rfl s⟩⟩

/-- Settles O22: WRP of TBA and PSTATE is the store through the field's mask. -/
theorem wrpMaskedRegisters : Obligations.WrpMaskedRegisters :=
  ⟨rfl, rfl, fun s => ⟨(isPlainWrite_decodeWrp 18).exec_scalar rfl s, (isPlainWrite_decodeWrp 19).exec_scalar rfl s⟩⟩

/-! The accesses without a meaning, SOFTINT_SET and SOFTINT_CLR. -/

theorem encode_of_mem_alwaysNotImplemented : ∀ row ∈ alwaysNotImplemented, encode row.1 = row.2.2 := by decide

/-- The meaning of each of these commands is the error (R107, R108, R144). -/
theorem exec_of_mem_alwaysNotImplemented : ∀ row ∈ alwaysNotImplemented, ∀ s,
    exec row.1 s = .next (afterError (.notImplemented (.register row.2.1)) (encode row.1) s) := by
  simp only [← State.raise_eq_afterError, alwaysNotImplemented, List.forall_mem_cons, List.not_mem_nil, false_imp_iff,
    implies_true, and_true]
  and_intros <;> exact fun _ => rfl

/-- Settles O20, row by row. -/
theorem unmodelledAccessesAnswerNotImplemented : Obligations.UnmodelledAccessesAnswerNotImplemented := by
  intro row hrow
  have hword := encode_of_mem_alwaysNotImplemented row hrow
  exact ⟨hword, fun s => hword ▸ exec_of_mem_alwaysNotImplemented row hrow s⟩

/-- Settles O23: the writes go through the policy, and the reads are among the accesses that always fail. -/
theorem softintSetClrByPolicy : Obligations.SoftintSetClrByPolicy := by
  refine ⟨rfl, rfl, rfl, rfl, rfl, rfl, fun s =>
    ⟨fun i hi => ?_, fun i hi => ?_, fun hpolicy => ?_, fun hpolicy => ?_⟩⟩
  · exact exec_of_mem_alwaysNotImplemented (i, 7, encode i) (by revert i; decide) s
  · exact exec_of_mem_alwaysNotImplemented (i, 8, encode i) (by revert i; decide) s
  · have hset := (isPlainWrite_decodeWrp 7).exec_softintSet rfl s
    have hclr := (isPlainWrite_decodeWrp 8).exec_softintClr rfl s
    simp only [softintSetValue, softintClrValue, hpolicy] at hset hclr
    exact ⟨hset, hclr⟩
  · have hset := (isPlainWrite_decodeWrp 7).exec_softintSet rfl s
    have hclr := (isPlainWrite_decodeWrp 8).exec_softintClr rfl s
    simp only [softintSetValue, softintClrValue, hpolicy] at hset hclr
    exact ⟨hset, hclr⟩

/-! NAME. -/

theorem nameOf_of_ge : ∀ id : RegId, 56 ≤ id.toNat → nameOf id = none := by decide

theorem nameOf_of_mem_names : ∀ row ∈ names, nameOf row.1 = some row.2 := by
  simp only [names, List.forall_mem_cons, List.not_mem_nil, false_imp_iff, implies_true, and_true]
  and_intros <;> rfl

/-- Settles O24: NAME looks the identifier up in the table of R30. -/
theorem nameReturnsRegisterName : Obligations.NameReturnsRegisterName := by
  refine ⟨encode_name, fun row hrow s => ?_, fun id s hid => ?_⟩
  · simp only [exec, execName, nameOf_of_mem_names row hrow]
    rfl
  · simp only [exec, execName, nameOf_of_ge id hid, State.raise_eq_afterError, encode_name]

/-! The per-trap-level registers. -/

/-- An element that exists is the one the model reads (R11). -/
theorem Bank.element_of_getElem? {b : Bank} {a : TrapReg} {n : Nat} {v : Word} (h : (b.array a)[n]? = some v) :
    b.element a n = v := by
  rw [Bank.element, List.getD_eq_getElem?_getD, h, Option.getD_some]

/-- Settles O16: both commands are the plain read of the row's identifier. -/
theorem trapArrayReads : Obligations.TrapArrayReads := by
  intro row hrow
  obtain ⟨a, ha⟩ := exists_trapRow row hrow
  have hrdp := ha.isPlainRead
  have hrde := isPlainRead_rde row.1
  refine ⟨?_, encode_rde _, fun s v htl hv => ?_, fun s htl i hi => ?_⟩
  · rw [ha.rdp_eq, encode_decodeRdp, cmdWord_zero_eq]
  · rw [ha.read_eq] at hv
    rw [hrdp.exec_trap ha.target_eq htl, hrde.exec_trap ha.target_eq htl, Bank.element_of_getElem? hv]
    exact ⟨rfl, rfl⟩
  · obtain rfl | rfl : i = row.2.1 ∨ i = .rde row.1 := by simpa using hi
    · exact hrdp.exec_trap_error ha.target_eq htl
    · exact hrde.exec_trap_error ha.target_eq htl

/-- Settles O17: both commands are the plain write to the row's identifier. -/
theorem trapArrayWrites : Obligations.TrapArrayWrites := by
  intro row hrow
  obtain ⟨a, ha⟩ := exists_trapRow row hrow
  have hwrp := ha.isPlainWrite
  have hwre := isPlainWrite_wre row.1
  refine ⟨?_, encode_wre _, fun s htl => ?_, fun s htl i hi => ?_⟩
  · rw [ha.wrp_eq, encode_decodeWrp]
    exact cmdWord_eq_add 0x1 row.1
  · rw [ha.read_eq, ha.store_eq]
    exact ⟨hwrp.exec_trap ha.target_eq htl, hwre.exec_trap ha.target_eq htl⟩
  · obtain rfl | rfl : i = row.2.2.1 ∨ i = .wre row.1 := by simpa using hi
    · exact hwrp.exec_trap_error ha.target_eq htl
    · exact hwre.exec_trap_error ha.target_eq htl

/-- A write to an array leaves TL (R103). -/
@[simp] theorem Bank.tl_setElement (b : Bank) (a : TrapReg) (n : Nat) (v : Word) : (b.setElement a n v).tl = b.tl :=
  Bank.get_setElement b a n v .tl

/-- The element of a legal trap level exists (R23). -/
theorem level_lt_length {s : State} (hwf : s.bank.wf s.cfg.maxTL = true) (htl : s.tlOk) (a : TrapReg) :
    s.bank.tl.toNat - 1 < (s.bank.array a).length := by
  rw [(Bank.wf_iff _).1 hwf a]
  omega

/-! The write-read law (R112). -/

theorem perform_of_exec {i : Instr} {v : Word} {s t : State} (h : exec i (withData s v) = .next t) :
    perform i v s = some t := by
  simp only [perform, h]

/-- The mask of R112 for a scalar field is the one its store applies. -/
theorem maskOf_of_scalar {id : RegId} {f : Scalar} (h : target id = some (.scalar f)) (c : Config) (v : Word) :
    maskOf c id v = storedValue c f v := by
  have htba : id = 18 ↔ f = .tba := by rw [← target_eq_tba_iff, h]; simp
  have hpstate : id = 19 ↔ f = .pstate := by rw [← target_eq_pstate_iff, h]; simp
  simp only [maskOf, htba, hpstate]
  cases f <;> rfl

/-- No mask but those of scalar fields. -/
theorem maskOf_of_not_scalar {id : RegId} (h : ∀ f, target id ≠ some (.scalar f)) (c : Config) (v : Word) :
    maskOf c id v = v := by
  rw [maskOf, if_neg (mt (target_eq_tba_iff id).2 (h _)), if_neg (mt (target_eq_pstate_iff id).2 (h _))]

/-- A plain read after a plain write to the same readable register returns the masked value (R112). -/
theorem IsPlainWrite.exec_read_back {wr rd : Instr} {id : RegId} {s : State} (hwr : IsPlainWrite wr id)
    (hrd : IsPlainRead rd id) (hid : id.toNat < 56) (hread : id ∉ ([5, 6, 7, 8, 31, 32] : List RegId))
    (hwf : s.bank.wf s.cfg.maxTL = true) (htl : id ∈ trapIds → s.tlOk) :
    ∃ t, exec wr s = .next t ∧ exec rd t = .next (afterOk (.word (maskOf s.cfg id s.port.wdata)) t) := by
  rcases target_of_readable hid hread with ⟨f, ht⟩ | ⟨a, ht⟩ | ⟨n, ht⟩
  · refine ⟨_, hwr.exec_scalar ht s, ?_⟩
    rw [hrd.exec_scalar ht, maskOf_of_scalar ht]
    simp only [afterStore, Bank.get_set_same]
  · have hlevel : s.tlOk := htl (target_trap ⟨a, ht⟩)
    refine ⟨_, hwr.exec_trap ht hlevel, ?_⟩
    have hlevel' : State.tlOk (afterStore (s.bank.setElement a (s.bank.tl.toNat - 1) s.port.wdata) s) := by
      simpa only [State.tlOk, afterStore, Bank.tl_setElement] using hlevel
    rw [hrd.exec_trap ht hlevel', maskOf_of_not_scalar (by simp [ht])]
    simp only [afterStore, Bank.tl_setElement, Bank.element_setElement_same _ _ (level_lt_length hwf hlevel a)]
  · refine ⟨_, hwr.exec_scratch ht s, ?_⟩
    rw [hrd.exec_scratch ht, maskOf_of_not_scalar (by simp [ht])]
    simp only [afterStore, Bank.slot_setSlot_same]

/-- Settles O25: the two words spell the plain write and the plain read of the identifier. -/
theorem writeReadLaw : Obligations.WriteReadLaw := by
  intro id s v hid hread hwf htl
  obtain ⟨t, hwrite, hback⟩ := (isPlainWrite_decodeWrp id).exec_read_back (s := withData s v)
    (isPlainRead_decodeRdp id) hid hread hwf htl
  exact ⟨_, _, t, decode_wrp_word id, decode_rdp_word id, perform_of_exec hwrite, hback⟩

/-! The separation of the trap levels (R113). -/

/-- Performing the commands from `s` ends in a state with the property `P`. -/
def Reaches (p : List (Instr × Word)) (s : State) (P : State → Prop) : Prop := ∃ t, performAll p s = some t ∧ P t

section reaches

variable {s u : State} {P Q : State → Prop} {p q : List (Instr × Word)}

theorem Reaches.nil (h : P s) : Reaches [] s P := ⟨s, rfl, h⟩

theorem Reaches.cons {i : Instr} {v : Word} (hi : perform i v s = some u) (h : Reaches p u P) :
    Reaches ((i, v) :: p) s P := by
  obtain ⟨t, ht, hP⟩ := h
  exact ⟨t, by rw [performAll, hi, Option.bind_some, ht], hP⟩

theorem performAll_append (p q : List (Instr × Word)) (s : State) :
    performAll (p ++ q) s = (performAll p s).bind (performAll q) := by
  induction p generalizing s with
  | nil => rfl
  | cons c p ih =>
    rw [List.cons_append, performAll, performAll, Option.bind_assoc]
    exact congrArg _ (funext ih)

theorem Reaches.append (hp : Reaches p s Q) (hq : ∀ u, Q u → Reaches q u P) : Reaches (p ++ q) s P := by
  obtain ⟨u, hu, hQ⟩ := hp
  obtain ⟨t, ht, hP⟩ := hq u hQ
  exact ⟨t, by rw [performAll_append, hu, Option.bind_some, ht], hP⟩

/-- A property that each block of commands keeps is kept by all of them together. -/
theorem Reaches.flatMap {α : Type} {f : α → List (Instr × Word)} {xs : List α}
    (hf : ∀ x ∈ xs, ∀ u, P u → Reaches (f x) u P) (h : P s) : Reaches (xs.flatMap f) s P := by
  induction xs generalizing s with
  | nil => exact .nil h
  | cons x xs ih =>
    rw [List.forall_mem_cons] at hf
    obtain ⟨hx, hxs⟩ := hf
    exact (hx s h).append fun _ => ih hxs

end reaches

/-- The state after the command WRE.TL with data `l`. -/
def atLevel (l : Word) (s : State) : State := afterStore (s.bank.set .tl l) (withData s l)

theorem perform_wreTl (l : Word) (s : State) : perform .wreTl l s = some (atLevel l s) := rfl

/-- The element of array `a` at trap level `l` is `v`, in a machine with configuration `c`. -/
structure HoldsAt (c : Config) (a : TrapReg) (l v : Word) (s : State) : Prop where
  cfg_eq : s.cfg = c
  element_eq : s.bank.element a (l.toNat - 1) = v

section levels

variable {c : Config} {a : TrapReg} {l v : Word} {s : State} {i : Instr} {id : RegId}

/-- A change of TL leaves the elements. -/
theorem HoldsAt.change_level (h : HoldsAt c a l v s) (m : Word) : HoldsAt c a l v (atLevel m s) :=
  ⟨h.cfg_eq, (Bank.element_set s.bank .tl m a _).trans h.element_eq⟩

/-- A write at trap level `l` leaves its value there. -/
theorem holdsAt_of_write (hi : IsPlainWrite i id) (ht : target id = some (.trap a)) (htl : s.tlOk)
    (hwf : s.bank.wf s.cfg.maxTL = true) (v : Word) :
    ∃ u, perform i v s = some u ∧ HoldsAt s.cfg a s.bank.tl v u := by
  exact ⟨_, perform_of_exec (hi.exec_trap (s := withData s v) ht htl), rfl,
    Bank.element_setElement_same _ _ (level_lt_length hwf htl a)⟩

/-- A write at another trap level, legal or not, leaves the element of level `l` (R23, R113). -/
theorem HoldsAt.write (h : HoldsAt c a l v s) (hl : 1 ≤ l.toNat) (hi : IsPlainWrite i id)
    (ht : target id = some (.trap a)) (hne : s.bank.tl ≠ l) (x : Word) :
    ∃ u, perform i x s = some u ∧ HoldsAt c a l v u := by
  by_cases htl : s.tlOk
  · have hlevel : l.toNat - 1 ≠ s.bank.tl.toNat - 1 := by
      have := BitVec.toNat_ne_iff_ne.2 hne
      omega
    exact ⟨_, perform_of_exec (hi.exec_trap (s := withData s x) ht htl), h.cfg_eq,
      (Bank.element_setElement_level _ _ hlevel).trans h.element_eq⟩
  · exact ⟨_, perform_of_exec (hi.exec_trap_error (s := withData s x) ht htl), h.cfg_eq, h.element_eq⟩

/-- A change to another trap level and a write there leave the element of level `l`. -/
theorem HoldsAt.write_at (h : HoldsAt c a l v s) (hl : 1 ≤ l.toNat) (hi : IsPlainWrite i id)
    (ht : target id = some (.trap a)) {m : Word} (hne : m ≠ l) (x : Word) :
    Reaches [(.wreTl, m), (i, x)] s (HoldsAt c a l v) := by
  obtain ⟨u, hu, hheld⟩ := (h.change_level m).write hl hi ht hne x
  exact .cons (perform_wreTl m s) (.cons hu (.nil hheld))

/-- Back at trap level `l`, every plain read of the register returns what its element holds (R101). -/
theorem HoldsAt.exec_read (h : HoldsAt c a l v s) (hlow : 1 ≤ l.toNat) (hhigh : l.toNat ≤ c.maxTL)
    (hi : IsPlainRead i id) (ht : target id = some (.trap a)) :
    exec i (atLevel l s) = .next (afterOk (.word v) (atLevel l s)) := by
  have htl : (atLevel l s).tlOk := ⟨hlow, h.cfg_eq ▸ hhigh⟩
  rw [hi.exec_trap ht htl]
  exact congrArg (fun w => Host.Outcome.next (afterOk (.word w) _)) (h.change_level l).element_eq

end levels

/-- Settles O26: the first write puts `v` into the element of level `l`, the writes at other levels leave it there, and
the reads at level `l` find it. -/
theorem trapLevelSeparation : Obligations.TrapLevelSeparation := by
  intro row hrow s l v others hwf hlow hhigh hothers first hfirst
  obtain ⟨a, ha⟩ := exists_trapRow row hrow
  have ht := ha.target_eq
  have hwrp := ha.isPlainWrite
  have hwre := isPlainWrite_wre row.1
  have hwrite : IsPlainWrite first row.1 := by
    obtain rfl | rfl : first = row.2.2.1 ∨ first = .wre row.1 := by simpa using hfirst
    · exact hwrp
    · exact hwre
  obtain ⟨u, hu, hheld⟩ := holdsAt_of_write hwrite ht (s := atLevel l s) ⟨hlow, hhigh⟩
    (Bank.set_wf _ .tl l hwf) v
  have hkept := Reaches.flatMap (s := u)
    (f := fun o : Word × Bool × Word => [(.wreTl, o.1), (if o.2.1 then row.2.2.1 else .wre row.1, o.2.2)])
    (fun o ho w hw => HoldsAt.write_at hw hlow (by split <;> assumption) ht (hothers o ho) o.2.2) hheld
  obtain ⟨t, hrun, t', rfl, ht'⟩ : Reaches _ s fun t => ∃ t', t = atLevel l t' ∧ HoldsAt s.cfg a l v t' :=
    (Reaches.cons (perform_wreTl l s) (.cons hu hkept)).append fun t' ht' =>
      .cons (perform_wreTl l t') (.nil ⟨t', rfl, ht'⟩)
  exact ⟨_, hrun, ht'.exec_read hlow hhigh ha.isPlainRead ht, ht'.exec_read hlow hhigh (isPlainRead_rde row.1) ht⟩

end Sys2Proof.Machine
end

section
/-! PROOFS. The statements of 41_effectful_access.md: the delegation of RDE and WRE to the plain accesses (R130, R131),
the tick counter (R140, R141, R154), STICK and HVER (R142, R143), the stores of PSTATE and TL (R146), and the
notifications of the collaborators (R150, R151). -/

open Sys2Proof.Claims

namespace Sys2Proof.Machine

/-! The masks of R10 as arithmetic on numbers. -/

/-- M63 is the remainder modulo `2^63`. -/
theorem toNat_and_M63 (x : Word) : (x &&& M63).toNat = x.toNat % 2 ^ 63 :=
  (BitVec.toNat_and x M63).trans (Nat.and_two_pow_sub_one_eq_mod x.toNat 63)

theorem getLsbD_MTICK (j : Nat) : MTICK.getLsbD j = decide (2 ≤ j ∧ j < 63) := by
  have hlow : ∀ j : Fin 64, MTICK.getLsbD j = decide (2 ≤ j.val ∧ j.val < 63) := by decide
  by_cases hj : j < 64
  · exact hlow ⟨j, hj⟩
  · rw [BitVec.getLsbD_of_ge _ _ (Nat.le_of_not_lt hj), eq_comm, decide_eq_false_iff_not]
    omega

/-- MTICK drops bit 63 and bits 1..0. -/
theorem toNat_and_MTICK (x : Word) : (x &&& MTICK).toNat = x.toNat % 2 ^ 63 / 4 * 4 := by
  change _ = x.toNat % 2 ^ 63 / 2 ^ 2 * 2 ^ 2
  apply Nat.eq_of_testBit_eq
  intro j
  rw [← BitVec.getLsbD, BitVec.getLsbD_and, getLsbD_MTICK, Nat.testBit_mul_two_pow, Nat.testBit_div_two_pow,
    Nat.testBit_mod_two_pow, ← BitVec.getLsbD]
  by_cases hj : 2 ≤ j
  · simp [hj, Bool.and_comm]
  · simp [hj]

/-- B63 keeps bit 63 alone. -/
theorem toNat_and_B63 (x : Word) : (x &&& B63).toNat = if x.getLsbD 63 then 2 ^ 63 else 0 := by
  rw [show B63 = BitVec.twoPow 64 63 from rfl, BitVec.and_twoPow]
  split <;> rfl

/-- Words in different fields are put together by addition. -/
theorem toNat_or_of_and_eq_zero {x y : Word} (h : x &&& y = 0) : (x ||| y).toNat = x.toNat + y.toNat := by
  rw [← BitVec.add_eq_or_of_and_eq_zero x y h, BitVec.toNat_add_of_and_eq_zero h]

/-- What is cut with disjoint masks is disjoint. -/
theorem and_masks_eq_zero {m n : Word} (h : m &&& n = 0) (x y : Word) : (x &&& m) &&& (y &&& n) = 0 := by
  calc (x &&& m) &&& (y &&& n) = (x &&& y) &&& (m &&& n) := by ac_rfl
    _ = 0 := by rw [h]; exact BitVec.and_zero

/-! The tick counter. -/

/-- The count as a number: the elapsed count without its bits 1..0, and the enable bit (R140). -/
theorem toNat_tickCount (ic stored : Word) :
    (tickCount ic stored).toNat = ((ic.toNat + 2 ^ 64 - stored.toNat) % 2 ^ 63) / 4 * 4 +
      (if stored.getLsbD 63 then 2 ^ 63 else 0) := by
  have helapsed : (ic - (stored &&& M63)).toNat % 2 ^ 63 = (ic.toNat + 2 ^ 64 - stored.toNat) % 2 ^ 63 := by
    rw [BitVec.toNat_sub, toNat_and_M63]
    omega
  rw [tickCount, toNat_or_of_and_eq_zero (and_masks_eq_zero rfl _ _), toNat_and_MTICK, toNat_and_B63, helapsed]

/-- Modulo `2^63` it does not matter whether the subtrahend is cut to 63 bits. -/
theorem sub_and_M63_and_MTICK (x y : Word) : (x - (y &&& M63)) &&& MTICK = (x - y) &&& MTICK := by
  apply BitVec.eq_of_toNat_eq
  rw [toNat_and_MTICK, toNat_and_MTICK]
  congr 2
  rw [BitVec.toNat_sub, BitVec.toNat_sub, toNat_and_M63]
  omega

/-- A re-base word holds the count in its low 63 bits (R141). -/
theorem tickRebase_and_M63 (ic v : Word) : tickRebase ic v &&& M63 = (ic - v) &&& M63 := by
  rw [tickRebase, BitVec.and_or_distrib_right, BitVec.and_assoc, BitVec.and_assoc, BitVec.and_self,
    show B63 &&& M63 = 0 from rfl, BitVec.ofNat_eq_ofNat, BitVec.and_zero, BitVec.or_zero]

/-- A re-base word holds the enable bit in bit 63 (R141). -/
theorem tickRebase_and_B63 (ic v : Word) : tickRebase ic v &&& B63 = v &&& B63 := by
  rw [tickRebase, BitVec.and_or_distrib_right, BitVec.and_assoc, BitVec.and_assoc, BitVec.and_self,
    show M63 &&& B63 = 0 from rfl, BitVec.ofNat_eq_ofNat, BitVec.and_zero, BitVec.zero_or]

/-- The count at `ic1` of what a write of `v` at `ic0` stored (R154). -/
theorem tickCount_tickRebase (ic0 ic1 v : Word) :
    tickCount ic1 (tickRebase ic0 v) = ((v + (ic1 - ic0)) &&& MTICK) ||| (v &&& B63) := by
  have helapsed : ic1 - (ic0 - v) = v + (ic1 - ic0) := by ring
  rw [tickCount, tickRebase_and_M63, tickRebase_and_B63, sub_and_M63_and_MTICK, helapsed]

/-! The word of HVER. -/

/-- A parameter in the byte field at bit `k` (R143). -/
theorem toNat_byteField {n k : Nat} (hn : n ≤ 255) (hk : k ≤ 56) :
    ((BitVec.ofNat 8 n).setWidth 64 <<< k).toNat = n <<< k := by
  have hlt : n <<< k < 2 ^ 64 := by
    rw [Nat.shiftLeft_eq]
    calc n * 2 ^ k ≤ 255 * 2 ^ 56 := Nat.mul_le_mul hn (Nat.pow_le_pow_right (by decide) hk)
      _ < 2 ^ 64 := by decide
  rw [BitVec.toNat_shiftLeft, BitVec.toNat_setWidth, BitVec.toNat_ofNat, Nat.mod_eq_of_lt (a := n) (by omega),
    Nat.mod_eq_of_lt (a := n) (by omega), Nat.mod_eq_of_lt hlt]

/-- The three byte fields are put together by addition: each parameter is at most 255 (R8, R143). -/
theorem toNat_hverWord (c : Config) : (hverWord c).toNat = c.nWindows + 256 * c.maxTL + 65536 * c.maxGL := by
  have hw := c.nWindows_le
  have htl := c.maxTL_le
  have hgl := c.maxGL_le
  have hwindows : ((BitVec.ofNat 8 c.nWindows).setWidth 64).toNat = c.nWindows :=
    (congrArg BitVec.toNat (BitVec.shiftLeft_zero _)).symm.trans (toNat_byteField hw (Nat.zero_le _))
  rw [hverWord, BitVec.toNat_or, BitVec.toNat_or, hwindows, toNat_byteField htl (by decide),
    toNat_byteField hgl (by decide), Nat.or_comm c.nWindows, ← Nat.shiftLeft_add_eq_or_of_lt (by omega), Nat.or_comm,
    ← Nat.shiftLeft_add_eq_or_of_lt (by omega), Nat.shiftLeft_eq, Nat.shiftLeft_eq]
  omega

/-! RDE. -/

/-- A plain read of an unmasked scalar register is the read of its table row (R100, R130). -/
theorem IsPlainRead.exec_verbatim {i : Instr} {row : RegId × (Bank → Word) × (Bank → Word → Bank)}
    (hi : IsPlainRead i row.1) (hrow : row ∈ verbatimScalars) (s : State) :
    exec i s = .next (afterOk (.word (row.2.1 s.bank)) s) := by
  obtain ⟨f, hf⟩ := exists_verbatimRow row hrow
  rw [hi.exec_scalar hf.target_eq, hf.read_eq]

/-- A plain write of an unmasked scalar register is the store of its table row (R102, R131). -/
theorem IsPlainWrite.exec_verbatim {i : Instr} {row : RegId × (Bank → Word) × (Bank → Word → Bank)}
    (hi : IsPlainWrite i row.1) (hrow : row ∈ verbatimScalars) (s : State) :
    exec i s = .next (afterStore (row.2.2 s.bank s.port.wdata) s) := by
  obtain ⟨f, hf⟩ := exists_verbatimRow row hrow
  rw [hi.exec_scalar hf.target_eq, hf.stored_eq, hf.store_eq]

/-- Settles O27: the generic RDE is the plain read. -/
theorem rdeDelegatesToPlainRead : Obligations.RdeDelegatesToPlainRead := by
  refine ⟨fun row hrow _ _ => (isPlainRead_rde row.1).exec_verbatim hrow, (isPlainRead_rde 18).exec_scalar rfl,
    (isPlainRead_rde 19).exec_scalar rfl, fun n => (isPlainRead_rde _).exec_scratch (target_scratch n),
    fun id s hid => ?_⟩
  rw [← encode_rde]
  exact (isPlainRead_rde id).exec_unknown hid s

/-- RDE of STICK is its plain read (R142). -/
theorem isPlainRead_rdeStick : IsPlainRead .rdeStick 11 := fun _ => rfl

/-- RDE of TICK and of PRIVTICK is one read, of the count (R140). -/
theorem exec_of_tickRead : ∀ rd ∈ ([.rdeTick, .rdePrivtick] : List Instr), ∀ s,
    exec rd s = .next (afterOk (.word (tickCount s.port.ic s.bank.tick)) s) := by
  simp only [List.forall_mem_cons, List.not_mem_nil, false_imp_iff, implies_true, and_true]
  exact ⟨fun _ => rfl, fun _ => rfl⟩

/-- WRE of TICK and of PRIVTICK is one write, of the re-base word (R141). -/
theorem exec_of_tickWrite : ∀ wr ∈ ([.wreTick, .wrePrivtick] : List Instr), ∀ s,
    exec wr s = .next (afterStore { s.bank with tick := tickRebase s.port.ic s.port.wdata } s) := by
  simp only [List.forall_mem_cons, List.not_mem_nil, false_imp_iff, implies_true, and_true]
  exact ⟨fun _ => rfl, fun _ => rfl⟩

/-- Settles O28: both commands return the count, whose number is `toNat_tickCount`. -/
theorem rdeTickReturnsCount : Obligations.RdeTickReturnsCount :=
  ⟨rfl, rfl, fun s => ⟨tickCount s.port.ic s.bank.tick, exec_of_tickRead .rdeTick (by simp) s,
    exec_of_tickRead .rdePrivtick (by simp) s, toNat_tickCount _ _⟩⟩

/-- Settles O29: both commands store the re-base word. -/
theorem wreTickRebases : Obligations.WreTickRebases :=
  ⟨rfl, rfl, fun s => ⟨exec_of_tickWrite .wreTick (by simp) s, exec_of_tickWrite .wrePrivtick (by simp) s⟩⟩

/-- Settles O30: the later state still holds the re-base word of the write, and its count is the one of
`tickCount_tickRebase`. -/
theorem counterLaw : Obligations.CounterLaw := by
  intro wr hwr rd hrd s t u hwrite htick
  have hstored : t.bank.tick = tickRebase s.port.ic s.port.wdata := by
    rw [exec_of_tickWrite wr hwr] at hwrite
    cases hwrite; rfl
  rw [exec_of_tickRead rd hrd, htick, hstored, tickCount_tickRebase]
  rfl

/-- Settles O32: the command answers the word of `toNat_hverWord`. -/
theorem rdeHverPacksParameters : Obligations.RdeHverPacksParameters := by
  refine ⟨rfl, fun s => ?_⟩
  rw [← toNat_hverWord, BitVec.ofNat_toNat, BitVec.setWidth_eq]
  rfl

/-! WRE. -/

/-- WRE of STICK is its plain write (R142). -/
theorem isPlainWrite_wreStick : IsPlainWrite .wreStick 11 := fun _ => rfl

/-- WRE of PSTATE is its plain write (R146). -/
theorem isPlainWrite_wrePstate : IsPlainWrite .wrePstate 19 := fun _ => rfl

/-- WRE of TL is its plain write (R146). -/
theorem isPlainWrite_wreTl : IsPlainWrite .wreTl 20 := fun _ => rfl

/-- The command is the plain write of WDATA to `id`, followed by the strobe that `x` makes of WDATA (R150, R151). -/
def IsNotifyingWrite (i : Instr) (id : RegId) (x : Word → Strobe) : Prop :=
  ∀ s, exec i s =
    .next (finishWrite (encode i) ((writePlain id s.port.wdata s).map (State.emit (x s.port.wdata))) s)

namespace IsNotifyingWrite

variable {i : Instr} {id : RegId} {x : Word → Strobe} {s : State}

theorem exec_of_ok {b : Bank} (hi : IsNotifyingWrite i id x)
    (h : writePlain id s.port.wdata s = .ok { s with bank := b }) :
    exec i s = .next (afterStore b { s with strobes := s.strobes ++ [x s.port.wdata] }) := by
  rw [hi, h]
  rfl

theorem exec_scalar {f : Scalar} (hi : IsNotifyingWrite i id x) (ht : target id = some (.scalar f)) (s : State) :
    exec i s = .next (afterStore (s.bank.set f (storedValue s.cfg f s.port.wdata))
      { s with strobes := s.strobes ++ [x s.port.wdata] }) :=
  hi.exec_of_ok (by simp only [writePlain, ht, storeScalar])

end IsNotifyingWrite

theorem isNotifyingWrite_wreCwp : IsNotifyingWrite .wreCwp 22 (.ctxChange .currentWindow) := fun _ => rfl

theorem isNotifyingWrite_wreGl : IsNotifyingWrite .wreGl 28 (.ctxChange .globalSet) := fun _ => rfl

theorem isNotifyingWrite_wreSoftintSet : IsNotifyingWrite .wreSoftintSet 7 (.softintWr 7) := fun _ => rfl

theorem isNotifyingWrite_wreSoftintClr : IsNotifyingWrite .wreSoftintClr 8 (.softintWr 8) := fun _ => rfl

theorem isNotifyingWrite_wreSoftint : IsNotifyingWrite .wreSoftint 9 (.softintWr 9) := fun _ => rfl

/-- Settles O31: both commands are the plain accesses of the one field, which has no mask. -/
theorem stickIsVerbatim : Obligations.StickIsVerbatim := fun s =>
  ⟨isPlainRead_rdeStick.exec_scalar rfl s, isPlainWrite_wreStick.exec_scalar rfl s⟩

/-- Settles O33: the generic WRE is the plain write. -/
theorem wreFallsThroughToPlainStore : Obligations.WreFallsThroughToPlainStore := by
  refine ⟨fun row hrow _ => (isPlainWrite_wre row.1).exec_verbatim hrow, (isPlainWrite_wre 18).exec_scalar rfl,
    fun n => (isPlainWrite_wre _).exec_scratch (target_scratch n), fun id s hid => ?_⟩
  rw [← encode_wre]
  exact (isPlainWrite_wre id).exec_unknown hid s

/-- Settles O34: both commands are the plain write of their register and nothing else, of PSTATE through its mask. -/
theorem wrePstateAndTlStore : Obligations.WrePstateAndTlStore :=
  ⟨rfl, rfl, fun s => ⟨isPlainWrite_wrePstate.exec_scalar rfl s, isPlainWrite_wreTl.exec_scalar rfl s⟩⟩

/-- Settles O35: both commands are the plain write of their register, then one CTX_CHANGE. -/
theorem wreCwpAndGlNotify : Obligations.WreCwpAndGlNotify :=
  ⟨rfl, rfl, fun s => ⟨isNotifyingWrite_wreCwp.exec_scalar rfl s, isNotifyingWrite_wreGl.exec_scalar rfl s⟩⟩

/-- Settles O36: each command is the plain write of its register, then one SOFTINT_WR. -/
theorem wreSoftintStoresAndStrobes : Obligations.WreSoftintStoresAndStrobes :=
  ⟨rfl, rfl, rfl, fun s => ⟨isNotifyingWrite_wreSoftint.exec_scalar rfl s,
    ⟨_, (isPlainWrite_decodeWrp 7).exec_softintSet rfl s, isNotifyingWrite_wreSoftintSet.exec_of_ok rfl⟩,
    ⟨_, (isPlainWrite_decodeWrp 8).exec_softintClr rfl s, isNotifyingWrite_wreSoftintClr.exec_of_ok rfl⟩⟩⟩

/-! Who emits which strobe (R84). -/

/-- The strobes to the event scheduler and of trap requests: those of the timer events (R84). -/
def Strobe.ofTimer (b : Strobe) : Bool :=
  match b with
  | .sched _ _ | .desched _ | .trapReq _ => true
  | .ctxChange _ _ | .softintWr _ _ => false

/-- On the way from `s` to `t` no strobe is emitted but those of the timer events. -/
def EmitsForTimers (s t : State) : Prop := ∃ out, t.strobes = s.strobes ++ out ∧ ∀ b ∈ out, b.ofTimer = true

section emits

variable {s t u : State}

theorem EmitsForTimers.of_same (h : t.strobes = s.strobes) : EmitsForTimers s t :=
  ⟨[], by rw [h, List.append_nil], by simp⟩

theorem EmitsForTimers.of_one {b : Strobe} (h : t.strobes = s.strobes ++ [b]) (hb : b.ofTimer = true) :
    EmitsForTimers s t :=
  ⟨[b], h, by simpa using hb⟩

theorem EmitsForTimers.trans (hst : EmitsForTimers s t) (htu : EmitsForTimers t u) : EmitsForTimers s u := by
  obtain ⟨out, ht, hout⟩ := hst
  obtain ⟨out', hu, hout'⟩ := htu
  exact ⟨out ++ out', by rw [hu, ht, List.append_assoc], List.forall_mem_append.2 ⟨hout, hout'⟩⟩

theorem EmitsForTimers.mem (h : EmitsForTimers s t) {out : List Strobe} (hout : t.strobes = s.strobes ++ out)
    {b : Strobe} (hb : b ∈ out) : b.ofTimer = true := by
  obtain ⟨out', ht, hall⟩ := h
  obtain rfl : out = out' := List.append_cancel_left (hout.symm.trans ht)
  exact hall b hb

theorem deschedule_emits (k : Timer) (s : State) : EmitsForTimers s (deschedule k s) := by
  rcases deschedule_cases k s with ⟨-, e⟩ | ⟨-, e⟩ <;> rw [e]
  · exact .of_one (b := .desched k) rfl rfl
  · exact .of_same rfl

theorem schedule_emits (k : Timer) (d : Int) (s : State) : EmitsForTimers s (schedule k d s) :=
  .of_one (schedule_strobes s k d) rfl

theorem fire_emits (k : Timer) (w : CmdWord) (s : State) : EmitsForTimers s (fire k w s) := by
  rcases fire_cases k w s with ⟨-, e⟩ | ⟨-, -, e⟩ | ⟨-, -, e⟩ <;> rw [e]
  · exact .of_same rfl
  · exact .of_one (b := .trapReq k) rfl rfl
  · exact .of_same rfl

theorem compareWrite_emits (k : Timer) (v : Word) (s : State) : EmitsForTimers s (compareWrite k v s) := by
  have hstored : EmitsForTimers s (storeScalar (cmprOf k) v (allocate k s)) := .of_same rfl
  have hcancelled := hstored.trans (deschedule_emits k _)
  unfold compareWrite
  by_cases hc : compareCancels k v s = true <;> by_cases ha : compareArms k v s = true <;>
    simp only [hc, ha, if_true, if_false, Bool.false_eq_true]
  · exact hcancelled.trans (schedule_emits _ _ _)
  · exact hcancelled
  · exact hstored.trans (schedule_emits _ _ _)
  · exact hstored

/-- RESET emits for the events it deschedules alone (R260). -/
theorem reset_emits (h : exec .reset s = .next t) : EmitsForTimers s t := by
  cases h
  have hcleared : EmitsForTimers s { s with bank := Bank.reset s.cfg } := .of_same rfl
  exact ((hcleared.trans (deschedule_emits .tick _)).trans (deschedule_emits .stick _)).trans
    (deschedule_emits .hstick _)

/-- A strobe that a command emits is one of the timer events, or the notification of an effectful write. -/
theorem ofTimer_or_notifies {i : Instr} {out : List Strobe} {b : Strobe} (he : exec i s = .next t)
    (hout : t.strobes = s.strobes ++ out) (hb : b ∈ out) : b.ofTimer = true ∨ Notifies i s.port.wdata b := by
  cases exec_effect he with
  | answered d next => exact .inl (EmitsForTimers.mem (.of_same (by rw [next]; rfl)) hout hb)
  | stored c next op keeps mask => exact .inl (EmitsForTimers.mem (.of_same (by rw [next])) hout hb)
  | notified c x next who keeps mask =>
    rw [next] at hout
    obtain rfl : [x] = out := List.append_cancel_left hout
    rw [List.mem_singleton] at hb
    exact .inr (hb ▸ who)
  | failed e next no_fire fits => exact .inl (EmitsForTimers.mem (.of_same (by rw [next]; rfl)) hout hb)
  | compared k who next => exact .inl ((compareWrite_emits k s.wdata s).mem (by rw [← hout, next]; rfl) hb)
  | fired k who next => exact .inl ((fire_emits k (encode i) s).mem (by rw [← hout, next]) hb)
  | wasReset who next => exact .inl ((reset_emits next).mem hout hb)

end emits

theorem Notifies.ctxChange {i : Instr} {v x : Word} {kind : CtxKind} (h : Notifies i v (.ctxChange kind x)) :
    (i = .wreCwp ∧ kind = .currentWindow ∨ i = .wreGl ∧ kind = .globalSet) ∧ x = v := by
  rcases h with ⟨rfl, h⟩ | ⟨rfl, h⟩ | ⟨-, h⟩ | ⟨-, h⟩ | ⟨-, h⟩ <;> cases h <;> simp

theorem Notifies.softintWr {i : Instr} {v x : Word} {id : RegId} (h : Notifies i v (.softintWr id x)) :
    (i = .wreSoftintSet ∧ id = 7 ∨ i = .wreSoftintClr ∧ id = 8 ∨ i = .wreSoftint ∧ id = 9) ∧ x = v := by
  rcases h with ⟨-, h⟩ | ⟨-, h⟩ | ⟨rfl, h⟩ | ⟨rfl, h⟩ | ⟨rfl, h⟩ <;> cases h <;> simp

/-- Settles O43: neither strobe is one of the timer events, so it is the notification of an effectful write. -/
theorem notificationsOnlyByEffectfulWrites : Obligations.NotificationsOnlyByEffectfulWrites := by
  intro i s t out b he hout hb
  constructor
  · rintro kind v rfl
    exact ((ofTimer_or_notifies he hout hb).resolve_left (by simp [Strobe.ofTimer])).ctxChange
  · rintro id v rfl
    exact ((ofTimer_or_notifies he hout hb).resolve_left (by simp [Strobe.ofTimer])).softintWr

end Sys2Proof.Machine
end

section
/-! PROOFS. The statements of 42_timer_compare.md: the compare write (R170 to R172), the only commands that change a
timer event (R33, R176), FIRE and ISSCHED (R180 to R182), and the scheduling law (R184). -/

open Sys2Proof.Claims

namespace Sys2Proof.Machine

/-! The compare units as functions of the timer. -/

/-- The ISSCHED command of timer k. -/
def isschedOf (k : Timer) : Instr :=
  match k with
  | .tick => .isschedTick
  | .stick => .isschedStick
  | .hstick => .isschedHstick

/-- The identifier of `CMPR[k]` (R30). -/
def cmprId (k : Timer) : RegId :=
  match k with
  | .tick => 10
  | .stick => 12
  | .hstick => 34

/-- The compare unit of timer k in the model's own terms. -/
def unitOf (k : Timer) : Claims.Unit where
  k := k
  wre := wreOf k
  fire := fireOf k
  issched := isschedOf k
  id := cmprId k
  fireWord := encode (fireOf k)
  store b v := b.set (cmprOf k) v
  get es := es.get k
  put es e := es.set k e

/-- The table of the compare units is one row for each timer, so a statement about it is one about every timer. -/
theorem forall_mem_units {P : Claims.Unit → Prop} : (∀ u ∈ units, P u) ↔ ∀ k, P (unitOf k) := by
  have hunits : units = [unitOf .tick, unitOf .stick, unitOf .hstick] := rfl
  rw [hunits]
  constructor
  · intro h k
    cases k <;> exact h _ (by simp)
  · intro h u hu
    simp only [List.mem_cons, List.not_mem_nil, or_false] at hu
    rcases hu with rfl | rfl | rfl <;> exact h _

theorem encode_wreOf (k : Timer) : encode (wreOf k) = 0x3000 + BitVec.ofNat 16 (cmprId k).toNat := by
  cases k <;> rfl

theorem encode_isschedOf (k : Timer) : encode (isschedOf k) = 0x9000 + BitVec.ofNat 16 (timerIndex k) := by
  cases k <;> rfl

section commands

variable (k : Timer) (s : State)

theorem exec_wreOf : exec (wreOf k) s = .next ((compareWrite k s.port.wdata s).answer .none) := by
  cases k <;> rfl

theorem exec_fireOf : exec (fireOf k) s = .next (fire k (encode (fireOf k)) s) := by
  cases k <;> rfl

theorem exec_isschedOf :
    exec (isschedOf k) s = .next (afterOk (.word (if (s.events.get k).armed = true then 1 else 0)) s) := by
  cases k <;> rfl

end commands

/-! The reference counters and the arming condition as numbers. -/

/-- Modulo `2^63` it does not matter whether the subtrahend is cut to 63 bits. -/
theorem sub_and_M63_and_M63 (x y : Word) : (x - (y &&& M63)) &&& M63 = (x - y) &&& M63 := by
  apply BitVec.eq_of_toNat_eq
  rw [toNat_and_M63, toNat_and_M63, BitVec.toNat_sub, BitVec.toNat_sub, toNat_and_M63]
  omega

/-- The counter of a compare is the reference count of R171 and R172. -/
theorem toNat_refCounter (k : Timer) (s : State) : (refCounter k s).toNat = refNumber k s := by
  cases k with
  | tick =>
    rw [refCounter, refNumber, if_pos rfl]
    cases s.cfg.tickCmprRef with
    | live => exact (congrArg BitVec.toNat (sub_and_M63_and_M63 _ _)).trans (toNat_and_M63 _)
    | stored => exact toNat_and_M63 _
  | stick => exact toNat_and_M63 _
  | hstick => exact toNat_and_M63 _

theorem compareDelta_eq_delta (k : Timer) (s : State) : compareDelta k s.port.wdata s = delta k s := by
  rw [compareDelta, toNat_refCounter, cmpField, toNat_and_M63, delta]

/-- Bit 63 as a bound (R25). -/
theorem disBit_iff {v : Word} : disBit v = true ↔ 2 ^ 63 ≤ v.toNat := by
  rw [show disBit v = v.msb from v.msb_eq_getLsbD_last.symm, BitVec.msb_eq_decide, decide_eq_true_iff]

theorem compareArms_iff {k : Timer} {s : State} : compareArms k s.port.wdata s = true ↔ arming k s := by
  rw [compareArms, compareDelta_eq_delta, Bool.and_eq_true, decide_eq_true_iff, arming, Bool.not_eq_true',
    ← Bool.not_eq_true, disBit_iff, Nat.not_le]

/-- A write that does not arm cancels when it is disabled or the policy is CANCEL (R170). -/
theorem compareCancels_iff {k : Timer} {s : State} (h : ¬arming k s) :
    compareCancels k s.port.wdata s = true ↔ 2 ^ 63 ≤ s.port.wdata.toNat ∨ s.cfg.stalePolicy = .cancel := by
  have harms : compareArms k s.port.wdata s = false := Bool.not_eq_true _ ▸ mt compareArms_iff.1 h
  rw [compareCancels, harms, Bool.or_false, Bool.or_eq_true, disBit_iff, decide_eq_true_iff]

/-- An arming write takes the old schedule away under both policies (R170). -/
theorem compareCancels_of_arms {k : Timer} {v : Word} {s : State} (h : compareArms k v s = true) :
    compareCancels k v s = true := by
  rw [compareCancels, h, Bool.or_true, Bool.true_or]

/-! The events under the operations of a compare write. -/

@[simp] theorem Events.set_set (es : Events) (k : Timer) (e e' : TimerEvent) : (es.set k e).set k e' = es.set k e' := by
  cases k <;> rfl

@[simp] theorem Events.set_get (es : Events) (k : Timer) : es.set k (es.get k) = es := by
  cases k <;> rfl

/-- What a deschedule emits (R84). -/
def descheduleStrobes (k : Timer) (s : State) : List Strobe :=
  if (s.events.get k).armed = true then [.desched k] else []

/-- The event after a deschedule. -/
def TimerEvent.descheduled (e : TimerEvent) : TimerEvent :=
  { e with armed := false, delay := if e.armed = true then 0 else e.delay }

theorem deschedule_eq (k : Timer) (s : State) : deschedule k s =
    { s with
      events := s.events.set k (s.events.get k).descheduled
      strobes := s.strobes ++ descheduleStrobes k s } := by
  rcases deschedule_cases k s with ⟨harmed, e⟩ | ⟨harmed, e⟩
  · rw [e, descheduleStrobes, TimerEvent.descheduled, if_pos harmed, if_pos harmed]
    rfl
  · have hevent : (s.events.get k).descheduled = s.events.get k := by
      rw [TimerEvent.descheduled, if_neg (by simp [harmed]), ← harmed]
    rw [e, hevent, Events.set_get, descheduleStrobes, if_neg (by simp [harmed]), List.append_nil]

/-- The next state of a compare write of `v` that leaves `E[k]` as `e` and emits `out` (R170). -/
def afterCompare (k : Timer) (v : Word) (e : TimerEvent) (out : List Strobe) (s : State) : State :=
  afterStore (s.bank.set (cmprOf k) v) { s with events := s.events.set k e, strobes := s.strobes ++ out }

@[simp] theorem afterCompare_event (k : Timer) (v : Word) (e : TimerEvent) (out : List Strobe) (s : State) :
    (afterCompare k v e out s).events.get k = e :=
  Events.get_set_same _ _ _

section compareWrite

variable {k : Timer} {s : State}

/-- The first two steps of R170, before any schedule is touched. -/
theorem compareStored_eq (k : Timer) (v : Word) (s : State) : storeScalar (cmprOf k) v (allocate k s) =
    { s with
      bank := s.bank.set (cmprOf k) v
      events := s.events.set k { s.events.get k with alloc := true } } := by
  cases k <;> rfl

/-- The first three steps of R170, where the old schedule is taken away. -/
theorem deschedule_compareStored (k : Timer) (v : Word) (s : State) :
    deschedule k (storeScalar (cmprOf k) v (allocate k s)) =
      { s with
        bank := s.bank.set (cmprOf k) v
        events := s.events.set k { (s.events.get k).descheduled with alloc := true }
        strobes := s.strobes ++ descheduleStrobes k s } := by
  rw [deschedule_eq, compareStored_eq]
  simp [TimerEvent.descheduled, descheduleStrobes]

/-- A write that arms reschedules the event (R170 step 5). -/
theorem exec_wreOf_of_arming (h : arming k s) : exec (wreOf k) s =
    .next (afterCompare k s.port.wdata { alloc := true, armed := true, delay := delta k s * s.cfg.timeScale }
      (descheduleStrobes k s ++ [.sched k (delta k s * s.cfg.timeScale)]) s) := by
  have harms := compareArms_iff.2 h
  rw [exec_wreOf, compareWrite, if_pos harms, if_pos (compareCancels_of_arms harms), deschedule_compareStored,
    compareDelta_eq_delta]
  simp [schedule, State.setEvent, State.emit, State.answer, afterCompare, afterStore]

/-- A write that does not arm but cancels leaves the event Unarmed (R170). -/
theorem exec_wreOf_of_cancel (h : ¬arming k s)
    (hcancel : 2 ^ 63 ≤ s.port.wdata.toNat ∨ s.cfg.stalePolicy = .cancel) : exec (wreOf k) s =
    .next (afterCompare k s.port.wdata { (s.events.get k).descheduled with alloc := true }
      (descheduleStrobes k s) s) := by
  rw [exec_wreOf, compareWrite, if_neg (mt compareArms_iff.1 h), if_pos ((compareCancels_iff h).2 hcancel),
    deschedule_compareStored]
  rfl

/-- A write that neither arms nor cancels leaves the old schedule in place (R170, KEEP). -/
theorem exec_wreOf_of_keep (h : ¬arming k s)
    (hkeep : ¬(2 ^ 63 ≤ s.port.wdata.toNat ∨ s.cfg.stalePolicy = .cancel)) : exec (wreOf k) s =
    .next (afterCompare k s.port.wdata { s.events.get k with alloc := true } [] s) := by
  rw [exec_wreOf, compareWrite, if_neg (mt compareArms_iff.1 h), if_neg (mt (compareCancels_iff h).1 hkeep),
    compareStored_eq, afterCompare, List.append_nil]
  rfl

end compareWrite

/-- Settles O37: a compare write arms, cancels or keeps. (`compareWrite` itself is the model's function.) -/
theorem compareWrite_spec : Obligations.CompareWrite := by
  refine forall_mem_units.2 fun k => ⟨encode_wreOf k, fun s => ⟨exec_wreOf_of_arming, exec_wreOf_of_cancel, ?_⟩⟩
  intro harming henabled hkeep
  refine exec_wreOf_of_keep harming ?_
  rintro (hdisabled | hcancel)
  · exact Nat.not_lt.2 hdisabled henabled
  · exact absurd (hkeep.symm.trans hcancel) (by decide)

/-! Who changes an event (R33, R176). -/

/-- FIRE of one event changes no other (R33). -/
theorem fire_other {k j : Timer} (w : CmdWord) (s : State) (h : j ≠ k) :
    (fire k w s).events.get j = s.events.get j := by
  rcases fire_cases k w s with ⟨-, e⟩ | ⟨-, -, e⟩ | ⟨-, -, e⟩ <;> rw [e]
  · rfl
  · exact Events.get_set_other _ _ h
  · exact Events.get_set_other _ _ h

/-- Settles O38, case by case of what a command can do: a compare write and a FIRE change the event of their own timer
alone. -/
theorem eventChangesOnlyByItsCommands : Obligations.EventChangesOnlyByItsCommands := by
  refine forall_mem_units.2 fun k i s t he (hne : t.events.get k ≠ s.events.get k) => ?_
  cases exec_effect he with
  | answered d next => subst next; exact absurd rfl hne
  | stored b next op keeps mask => subst next; exact absurd rfl hne
  | notified b x next who keeps mask => subst next; exact absurd rfl hne
  | failed e next no_fire fits => subst next; exact absurd rfl hne
  | compared j who next =>
    subst next
    have hk : k = j := by_contra fun h => hne (compareWrite_other s.wdata s h)
    exact .inl (hk ▸ who)
  | fired j who next =>
    subst next
    have hk : k = j := by_contra fun h => hne (fire_other (encode i) s h)
    exact .inr (.inl (hk ▸ who))
  | wasReset who next => exact .inr (.inr who)

/-! FIRE and ISSCHED. -/

/-- A FIRE or ISSCHED word with a timer index above 2 is illegal (R87 (d)). -/
theorem answersIllegal_of_timer_gt {op : BitVec 4} {id : RegId} (hop : op = 8 ∨ op = 9) (hid : 2 < id.toNat)
    (s : State) : answersIllegal (BitVec.ofNat 16 (op.toNat * 4096) + BitVec.ofNat 16 id.toNat) s := by
  rintro r rest hpending hcmd
  rw [← hcmd]
  rw [← cmdWord_eq_add] at hcmd
  obtain ⟨hopField, -, hidField⟩ := Laws.fields_cmdWord op 0 id
  refine illegalWordsAnswerIllegalCommand s r rest hpending (.inr (.inr (.inr (.inl ?_))))
  rw [hcmd, hopField, hidField]
  exact ⟨hop, hid⟩

section fire

variable {k : Timer} {s : State}

theorem exec_fireOf_of_delivery (harmed : (s.events.get k).armed = true)
    (hsupplied : s.cfg.trapDeliverySupplied = true) :
    exec (fireOf k) s = .next (((disarm k s).emit (.trapReq k)).answer .none) := by
  rw [exec_fireOf, fire, if_pos harmed, if_pos hsupplied]

theorem exec_fireOf_of_no_delivery (harmed : (s.events.get k).armed = true)
    (hsupplied : s.cfg.trapDeliverySupplied = false) : exec (fireOf k) s =
      .next (afterError (.notImplemented (.fireBody k)) (encode (fireOf k)) (disarm k s)) := by
  rw [exec_fireOf, fire, if_pos harmed, if_neg (by simp [hsupplied]), State.raise_eq_afterError]

theorem exec_fireOf_of_not_armed (harmed : (s.events.get k).armed = false) :
    exec (fireOf k) s = .next (afterError (.illegalCommand (encode (fireOf k))) (encode (fireOf k)) s) := by
  rw [exec_fireOf_of_unarmed harmed, State.raise_eq_afterError]

end fire

/-- Settles O40: consuming the event is its disarming. -/
theorem fireConsumesArmedEvent : Obligations.FireConsumesArmedEvent :=
  ⟨fun _ hid s => answersIllegal_of_timer_gt (.inl rfl) hid s, forall_mem_units.2 fun _ => ⟨rfl, fun _ =>
    ⟨exec_fireOf_of_delivery, exec_fireOf_of_no_delivery, exec_fireOf_of_not_armed⟩⟩⟩

/-- Settles O41: ISSCHED answers the armed bit, and a word of no timer is not decoded. -/
theorem isSchedReturnsArmed : Obligations.IsSchedReturnsArmed :=
  ⟨fun _ hid s => answersIllegal_of_timer_gt (.inr rfl) hid s,
    forall_mem_units.2 fun k => ⟨encode_isschedOf k, exec_isschedOf k⟩⟩

/-! An arming write, then a disabling write. -/

theorem armed_of_arming {k : Timer} {s t : State} (h : arming k s) (he : exec (wreOf k) s = .next t) :
    (t.events.get k).armed = true := by
  obtain rfl := Host.Outcome.next.inj ((exec_wreOf_of_arming h).symm.trans he)
  rw [afterCompare_event]

theorem unarmed_and_strobes_of_disabled {k : Timer} {s t : State} (h : 2 ^ 63 ≤ s.port.wdata.toNat)
    (he : exec (wreOf k) s = .next t) :
    (t.events.get k).armed = false ∧ t.strobes = s.strobes ++ descheduleStrobes k s := by
  have hdisabled : ¬arming k s := fun ⟨henabled, _⟩ => Nat.not_lt.2 h henabled
  obtain rfl := Host.Outcome.next.inj ((exec_wreOf_of_cancel hdisabled (.inl h)).symm.trans he)
  exact ⟨by rw [afterCompare_event, TimerEvent.descheduled], rfl⟩

/-- Settles O39: the first write leaves the event Armed, so the second takes a schedule away. -/
theorem schedulingLaw : Obligations.SchedulingLaw := by
  refine forall_mem_units.2 fun k s t t' v harming ht hv ht' => ?_
  have harmed : (t.events.get k).armed = true := armed_of_arming harming ht
  obtain ⟨hunarmed, hstrobes⟩ := unarmed_and_strobes_of_disabled (s := withData t v) hv ht'
  refine ⟨(exec_isschedOf k t).trans ?_, (exec_isschedOf k t').trans ?_, hstrobes.trans ?_,
    exec_fireOf_of_not_armed hunarmed⟩
  · rw [if_pos harmed]
  · rw [if_neg (by simp [hunarmed])]
  · exact congrArg (t.strobes ++ ·) (if_pos harmed)

end Sys2Proof.Machine
end

section
/-! PROOFS. The statements of 43_persistence.md: the layout of a SAVE image (R201, R202), RESTORE (R203), the round
trips (R205) and the byte form (R206). The layout is said once, as the relation `Bank.LaidOut` between a bank and an
image: SAVE and RESTORE each establish it, it fixes the bank and the image alike, and the round trips are that
uniqueness. -/

open Sys2Proof.Claims

namespace Sys2Proof.Machine

/-! The positions of the "save" column of R22. -/

/-- The position of a scalar field in an image. -/
def Scalar.position (f : Scalar) : Nat := f.ctorIdx

/-- The position of element 0 of a per-trap-level array in an image, with `n` the parameter `MAXTL`. -/
def TrapReg.position (n : Nat) (a : TrapReg) : Nat :=
  match a with
  | .tpc => 36
  | .tnpc => 36 + n
  | .tstate => 36 + 2 * n
  | .tt => 36 + 3 * n
  | .htstate => 36 + 4 * n

theorem Scalar.position_lt (f : Scalar) : f.position < 36 := by
  cases f <;> decide

theorem Scalar.ofNat_position (f : Scalar) : Scalar.ofNat f.position = f := Scalar.ofNat_ctorIdx f

theorem Scalar.exists_position_eq : ∀ i < 36, ∃ f : Scalar, f.position = i := fun i hi =>
  ⟨.ofNat i, (by decide : ∀ i < 36, (Scalar.ofNat i).position = i) i hi⟩

/-- The table of the statements has one row for each scalar field. -/
theorem forall_mem_savePositions {P : Nat × (Bank → Word) → Prop} :
    (∀ p ∈ savePositions, P p) ↔ ∀ f : Scalar, P (f.position, (·.get f)) := by
  have htable : savePositions =
      (List.range 36).map fun i => ((Scalar.ofNat i).position, (·.get (Scalar.ofNat i))) := rfl
  simp only [htable, List.forall_mem_map, List.mem_range]
  constructor
  · intro h f
    simpa only [Scalar.ofNat_position] using h f.position f.position_lt
  · exact fun h i _ => h (Scalar.ofNat i)

/-- Every position of an image is that of a scalar field, of an array element or of a scratch slot. -/
theorem position_cases {n i : Nat} (h : i < 5 * n + 44) :
    (∃ f : Scalar, i = f.position) ∨ (∃ a : TrapReg, ∃ j < n, i = a.position n + j) ∨
      ∃ m : Fin 8, i = 36 + 5 * n + m := by
  have harray (a : TrapReg) (hlow : a.position n ≤ i) (hhigh : i < a.position n + n) :
      ∃ a : TrapReg, ∃ j < n, i = a.position n + j := ⟨a, i - a.position n, by omega, by omega⟩
  rcases Nat.lt_or_ge i 36 with hi | hi
  · obtain ⟨f, hf⟩ := Scalar.exists_position_eq i hi
    exact .inl ⟨f, hf.symm⟩
  rcases Nat.lt_or_ge i (36 + 5 * n) with hi' | hi'
  · refine .inr (.inl ?_)
    rcases Nat.lt_or_ge i (36 + n) with h1 | h1
    · exact harray .tpc hi h1
    rcases Nat.lt_or_ge i (36 + 2 * n) with h2 | h2
    · exact harray .tnpc h1 (by simp only [TrapReg.position]; omega)
    rcases Nat.lt_or_ge i (36 + 3 * n) with h3 | h3
    · exact harray .tstate h2 (by simp only [TrapReg.position]; omega)
    rcases Nat.lt_or_ge i (36 + 4 * n) with h4 | h4
    · exact harray .tt h3 (by simp only [TrapReg.position]; omega)
    · exact harray .htstate h4 (by simp only [TrapReg.position]; omega)
  · exact .inr (.inr ⟨⟨i - (36 + 5 * n), by omega⟩, by simp only; omega⟩)

/-! The layout. -/

/-- The image `img` holds every field of the bank `b` raw at its position, and nothing else (R201). -/
structure Bank.LaidOut (n : Nat) (b : Bank) (img : List Word) : Prop where
  length : img.length = 5 * n + 44
  wf : b.wf n = true
  scalar : ∀ f : Scalar, img[f.position]? = some (b.get f)
  array : ∀ (a : TrapReg), ∀ j < n, img[a.position n + j]? = (b.array a)[j]?
  slot : ∀ m : Fin 8, img[36 + 5 * n + m]? = some (b.slot m)

/-- A bank is its 36 scalar fields, its five arrays and its scratch pad (R22). -/
theorem Bank.eq_of_fields {b c : Bank} (hscalar : ∀ f, b.get f = c.get f) (harray : ∀ a, b.array a = c.array a)
    (hslot : ∀ m, b.slot m = c.slot m) : b = c := by
  have hscratch : b.scratch = c.scratch := Vector.ext fun i hi => hslot ⟨i, hi⟩
  cases b
  cases c
  congr
  exacts [hscalar .y, hscalar .ccr, hscalar .asi, hscalar .tick, hscalar .fprs, hscalar .softint, hscalar .tickCmpr,
    hscalar .stick, hscalar .stickCmpr, hscalar .tba, hscalar .pstate, hscalar .tl, hscalar .pil, hscalar .cwp,
    hscalar .cansave, hscalar .canrestore, hscalar .cleanwin, hscalar .otherwin, hscalar .wstate, hscalar .gl,
    hscalar .hpstate, hscalar .strandSts, hscalar .hstickCmpr, hscalar .fsr, hscalar .mmuPContext,
    hscalar .mmuSContext, hscalar .mmuPartId, hscalar .mmuLsuCtrl, hscalar .itlbC0Config, hscalar .itlbC0Status,
    hscalar .itlbCxConfig, hscalar .itlbCxStatus, hscalar .dtlbC0Config, hscalar .dtlbC0Status,
    hscalar .dtlbCxConfig, hscalar .dtlbCxStatus, harray .tpc, harray .tnpc, harray .tstate, harray .tt,
    harray .htstate]

/-- One image is the image of one bank only. -/
theorem Bank.LaidOut.bank_unique {n : Nat} {b c : Bank} {img : List Word} (hb : b.LaidOut n img)
    (hc : c.LaidOut n img) : b = c := by
  refine Bank.eq_of_fields (fun f => ?_) (fun a => List.ext_getElem? fun j => ?_) fun m => ?_
  · exact Option.some.inj ((hb.scalar f).symm.trans (hc.scalar f))
  · have hlb := (Bank.wf_iff b).1 hb.wf a
    have hlc := (Bank.wf_iff c).1 hc.wf a
    rcases Nat.lt_or_ge j n with hj | hj
    · exact (hb.array a j hj).symm.trans (hc.array a j hj)
    · rw [List.getElem?_eq_none (hlb.trans_le hj), List.getElem?_eq_none (hlc.trans_le hj)]
  · exact Option.some.inj ((hb.slot m).symm.trans (hc.slot m))

/-- One bank has one image only. -/
theorem Bank.LaidOut.image_unique {n : Nat} {b : Bank} {img img' : List Word} (h : b.LaidOut n img)
    (h' : b.LaidOut n img') : img = img' := by
  refine List.ext_getElem? fun i => ?_
  rcases Nat.lt_or_ge i (5 * n + 44) with hi | hi
  · rcases position_cases hi with ⟨f, rfl⟩ | ⟨a, j, hj, rfl⟩ | ⟨m, rfl⟩
    · exact (h.scalar f).trans (h'.scalar f).symm
    · exact (h.array a j hj).trans (h'.array a j hj).symm
    · exact (h.slot m).trans (h'.slot m).symm
  · rw [List.getElem?_eq_none (h.length.trans_le hi), List.getElem?_eq_none (h'.length.trans_le hi)]

/-! The image of a bank is laid out so. -/

section image

variable {n : Nat} (b : Bank)

/-- The words of the scalar fields, in the order of R22. -/
def Bank.scalarWords : List Word := (List.range 36).map fun i => b.get (Scalar.ofNat i)

theorem Bank.length_scalarWords : b.scalarWords.length = 36 := by
  rw [Bank.scalarWords, List.length_map, List.length_range]

theorem Bank.image_eq : b.image =
    b.scalarWords ++ b.tpc ++ b.tnpc ++ b.tstate ++ b.tt ++ b.htstate ++ b.scratch.toList := rfl

theorem Bank.getElem?_scalarWords (f : Scalar) : b.scalarWords[f.position]? = some (b.get f) := by
  rw [Bank.scalarWords, List.getElem?_map, List.getElem?_range f.position_lt, Option.map_some,
    Scalar.ofNat_position]

variable {b}

/-- The words of an image ahead of an array. -/
def Bank.wordsBefore (b : Bank) (a : TrapReg) : List Word :=
  match a with
  | .tpc => b.scalarWords
  | .tnpc => b.scalarWords ++ b.tpc
  | .tstate => b.scalarWords ++ b.tpc ++ b.tnpc
  | .tt => b.scalarWords ++ b.tpc ++ b.tnpc ++ b.tstate
  | .htstate => b.scalarWords ++ b.tpc ++ b.tnpc ++ b.tstate ++ b.tt

theorem Bank.length_wordsBefore (h : b.wf n = true) (a : TrapReg) : (b.wordsBefore a).length = a.position n := by
  have hlen := (Bank.wf_iff b).1 h
  have htpc : b.tpc.length = n := hlen .tpc
  have htnpc : b.tnpc.length = n := hlen .tnpc
  have htstate : b.tstate.length = n := hlen .tstate
  have htt : b.tt.length = n := hlen .tt
  cases a <;> simp only [Bank.wordsBefore, TrapReg.position, List.length_append, Bank.length_scalarWords, htpc, htnpc,
    htstate, htt] <;> omega

/-- Each array stands in the image as one block. -/
theorem Bank.exists_image_eq_append (b : Bank) (a : TrapReg) :
    ∃ after, b.image = b.wordsBefore a ++ (b.array a ++ after) := by
  cases a <;> simp only [Bank.image_eq, Bank.wordsBefore, Bank.array, List.append_assoc, List.append_cancel_left_eq,
    exists_eq']

theorem Bank.getElem?_image_scalar (f : Scalar) : b.image[f.position]? = some (b.get f) := by
  have hf : f.position < b.scalarWords.length := b.length_scalarWords.symm ▸ f.position_lt
  simp only [Bank.image_eq, List.append_assoc]
  rw [List.getElem?_append_left hf, Bank.getElem?_scalarWords]

theorem Bank.getElem?_image_array (h : b.wf n = true) (a : TrapReg) {j : Nat} (hj : j < n) :
    b.image[a.position n + j]? = (b.array a)[j]? := by
  obtain ⟨after, himage⟩ := b.exists_image_eq_append a
  have hj' : j < (b.array a).length := ((Bank.wf_iff b).1 h a).symm ▸ hj
  rw [himage, ← Bank.length_wordsBefore h a, List.getElem?_append_right (Nat.le_add_right _ _),
    Nat.add_sub_cancel_left, List.getElem?_append_left hj']

theorem Bank.getElem?_image_slot (h : b.wf n = true) (m : Fin 8) :
    b.image[36 + 5 * n + m]? = some (b.slot m) := by
  have hfields := b.image_length h
  have hscratch : b.scratch.toList.length = 8 := Vector.length_toList
  rw [Bank.image_eq, List.length_append, hscratch] at hfields
  rw [Bank.image_eq, List.getElem?_append_right (by omega)]
  have hm : 36 + 5 * n + m.val - (b.scalarWords ++ b.tpc ++ b.tnpc ++ b.tstate ++ b.tt ++ b.htstate).length = m := by
    omega
  rw [hm]
  simp [Bank.slot]

theorem Bank.laidOut_image (h : b.wf n = true) : b.LaidOut n b.image where
  length := b.image_length h
  wf := h
  scalar := Bank.getElem?_image_scalar
  array a _ hj := Bank.getElem?_image_array h a hj
  slot := Bank.getElem?_image_slot h

end image

/-! The bank of an image is laid out so. -/

section ofImage

variable (n : Nat) (img : List Word)

theorem Bank.get_ofImage (f : Scalar) : (Bank.ofImage n img).get f = img.getD f.position 0 := by
  cases f <;> rfl

theorem Bank.array_ofImage (a : TrapReg) : (Bank.ofImage n img).array a = (img.drop (a.position n)).take n := by
  cases a
  case tnpc => simp only [Bank.array, Bank.ofImage, TrapReg.position, Nat.one_mul]
  all_goals rfl

theorem Bank.slot_ofImage (m : Fin 8) : (Bank.ofImage n img).slot m = img.getD (36 + 5 * n + m) 0 := by
  simp [Bank.slot, Bank.ofImage]

variable {n img}

theorem Bank.laidOut_ofImage (h : img.length = 5 * n + 44) : (Bank.ofImage n img).LaidOut n img where
  length := h
  wf := Bank.ofImage_wf h
  scalar f := by
    have hf : f.position < img.length := by have := f.position_lt; omega
    rw [Bank.get_ofImage, List.getD_eq_getElem _ _ hf, List.getElem?_eq_getElem hf]
  array a j hj := by
    rw [Bank.array_ofImage, List.getElem?_take_of_lt hj, List.getElem?_drop]
  slot m := by
    have hm : 36 + 5 * n + m.val < img.length := by omega
    rw [Bank.slot_ofImage, List.getD_eq_getElem _ _ hm, List.getElem?_eq_getElem hm]

end ofImage

/-! SAVE and RESTORE. -/

theorem exec_save (s : State) : exec .save s = .next (afterOk (.image s.bank.image) s) := rfl

theorem exec_restore_of_length {s : State} (h : s.port.img.length = 44 + 5 * s.cfg.maxTL) :
    exec .restore s = .next (afterStore (Bank.ofImage s.cfg.maxTL s.port.img) s) := by
  have hlen : s.img.length = saveLen s.cfg := h.trans (Nat.add_comm _ _)
  rw [exec, execRestore, if_pos hlen]
  rfl

/-- Settles O44: the image of SAVE is laid out as R201 says. -/
theorem saveReturnsImage : Obligations.SaveReturnsImage := by
  refine ⟨rfl, fun s hwf => ⟨s.bank.image, exec_save s, ?_⟩⟩
  have hlaid := Bank.laidOut_image hwf
  exact ⟨hlaid.length.trans (Nat.add_comm _ _), forall_mem_savePositions.2 hlaid.scalar,
    fun j hj => ⟨hlaid.array .tpc j hj, hlaid.array .tnpc j hj, hlaid.array .tstate j hj, hlaid.array .tt j hj,
      hlaid.array .htstate j hj⟩, hlaid.slot⟩

/-- Settles O45: RESTORE leaves the bank that the image lays out. -/
theorem restoreWritesImage : Obligations.RestoreWritesImage := by
  refine ⟨rfl, fun s hlen => ⟨Bank.ofImage s.cfg.maxTL s.port.img, exec_restore_of_length hlen, ?_⟩,
    fun s hlen => ?_⟩
  · have hlaid := Bank.laidOut_ofImage (hlen.trans (Nat.add_comm _ _))
    exact ⟨hlaid.wf, forall_mem_savePositions.2 hlaid.scalar,
      fun j hj => ⟨(hlaid.array .tpc j hj).symm, (hlaid.array .tnpc j hj).symm, (hlaid.array .tstate j hj).symm,
        (hlaid.array .tt j hj).symm, (hlaid.array .htstate j hj).symm⟩, hlaid.slot⟩
  · rw [exec_restore_of_length_ne hlen, State.raise_eq_afterError]
    rfl

theorem Bank.ofImage_image {n : Nat} {b : Bank} (h : b.wf n = true) : Bank.ofImage n b.image = b :=
  (Bank.laidOut_ofImage (b.image_length h)).bank_unique (Bank.laidOut_image h)

theorem Bank.image_ofImage {n : Nat} {img : List Word} (h : img.length = 5 * n + 44) :
    (Bank.ofImage n img).image = img :=
  (Bank.laidOut_image (Bank.ofImage_wf h)).image_unique (Bank.laidOut_ofImage h)

/-- Settles O46: `Bank.image` and `Bank.ofImage` are inverse to each other. -/
theorem saveRestoreRoundTrip : Obligations.SaveRestoreRoundTrip := by
  constructor
  · intro s u img hwf hcfg hsave himg
    have hresp := congrArg State.resp (Host.Outcome.next.inj ((exec_save s).symm.trans hsave))
    obtain rfl : s.bank.image = img := RespData.image.inj (Response.ok.inj hresp)
    have hlen : u.port.img.length = 44 + 5 * u.cfg.maxTL := by
      rw [himg, hcfg, s.bank.image_length hwf, Nat.add_comm]
    rw [exec_restore_of_length hlen, himg, hcfg, Bank.ofImage_image hwf]
  · intro s t hlen hrestore
    obtain rfl := Host.Outcome.next.inj ((exec_restore_of_length hlen).symm.trans hrestore)
    have himage : (Bank.ofImage s.cfg.maxTL s.port.img).image = s.port.img :=
      Bank.image_ofImage (hlen.trans (Nat.add_comm _ _))
    rw [exec_save, afterStore, himage]

/-! The byte form of an image. -/

theorem length_wordBytes (w : Word) : (wordBytes w).length = 8 := rfl

/-- Byte j of a word, most significant first, is its bits 63-8j to 56-8j (R206). -/
theorem getElem?_wordBytes (w : Word) {j : Nat} (h : j < 8) :
    (wordBytes w)[j]? = some ((w >>> (56 - 8 * j)).setWidth 8) := by
  rw [BitVec.setWidth_ushiftRight_eq_extractLsb]
  interval_cases j <;> rfl

theorem imageBytes_cons (w : Word) (img : List Word) : imageBytes (w :: img) = wordBytes w ++ imageBytes img :=
  List.flatMap_cons

theorem length_imageBytes (img : List Word) : (imageBytes img).length = 8 * img.length := by
  induction img with
  | nil => rfl
  | cons w img ih =>
    rw [imageBytes_cons, List.length_append, length_wordBytes, ih, List.length_cons]
    omega

theorem getElem?_imageBytes {img : List Word} {i j : Nat} {w : Word} (hw : img[i]? = some w) (hj : j < 8) :
    (imageBytes img)[8 * i + j]? = some ((w >>> (56 - 8 * j)).setWidth 8) := by
  induction img generalizing i with
  | nil => simp at hw
  | cons v img ih =>
    rw [imageBytes_cons]
    cases i with
    | zero =>
      obtain rfl : v = w := by simpa using hw
      rw [Nat.mul_zero, Nat.zero_add, List.getElem?_append_left hj, getElem?_wordBytes v hj]
    | succ i =>
      have hnext : 8 * (i + 1) + j = (wordBytes v).length + (8 * i + j) := by rw [length_wordBytes]; omega
      rw [hnext, List.getElem?_append_right (Nat.le_add_right _ _), Nat.add_sub_cancel_left, ih (by simpa using hw)]

theorem imageOfBytes_wordBytes_append (w : Word) (bytes : List Byte) :
    imageOfBytes (wordBytes w ++ bytes) = (imageOfBytes bytes).map (w :: ·) := by
  rw [wordBytes]
  simp only [List.cons_append, List.nil_append, imageOfBytes, bytesWord_of_wordBytes]
  cases imageOfBytes bytes <;> rfl

theorem imageOfBytes_imageBytes (img : List Word) : imageOfBytes (imageBytes img) = some img := by
  induction img with
  | nil => rfl
  | cons w img ih => rw [imageBytes_cons, imageOfBytes_wordBytes_append, ih, Option.map_some]

/-- Settles O47: each word gives its own eight bytes and takes them back. -/
theorem imageBytesMostSignificantFirst : Obligations.ImageBytesMostSignificantFirst := fun img =>
  ⟨length_imageBytes img, fun _ _ _ hw hj => getElem?_imageBytes hw hj, imageOfBytes_imageBytes img⟩

end Sys2Proof.Machine
end

section
/-! PROOFS. The statements of 60_exceptions.md: errors are precise (R220), the fault record (R223), the causes of each
error (R224 to R226), the trap requests (R230), and the absence of modes (R241). -/

open Sys2Proof.Claims

namespace Sys2Proof.Machine

/-! How a command fails. -/

/-- The two ways a command ends in the error `e`: precisely, with nothing changed but the answer, or as a FIRE that
consumed its event and found no trap delivery (R220). -/
inductive Failure (i : Instr) (s t : State) (e : Err) : Prop where
  | precise (next : t = s.raise e (encode i)) (no_fire : ∀ k, e ≠ .notImplemented (.fireBody k))
      (fits : i.wf = true → e.fits s.cfg (encode i))
  | consumed (k : Timer) (who : i = fireOf k) (err : e = .notImplemented (.fireBody k))
      (armed : (s.events.get k).armed = true) (undelivered : s.cfg.trapDeliverySupplied = false)
      (next : t = (disarm k s).raise e (encode i))

section failure

variable {i : Instr} {s t : State}

/-- Every error of every command, case by case of what a command can do. -/
theorem exec_failure {e : Err} (he : exec i s = .next t) (hresp : t.resp = .error e) : Failure i s t e := by
  cases exec_effect he with
  | answered d next => subst next; cases hresp
  | stored b next op keeps mask => subst next; cases hresp
  | notified b x next who keeps mask => subst next; cases hresp
  | failed e' next no_fire fits => subst next; cases hresp; exact .precise rfl no_fire fits
  | compared k who next => subst next; cases hresp
  | fired k who next =>
    subst next who
    rcases fire_cases k (encode (fireOf k)) s with ⟨-, hfire⟩ | ⟨-, -, hfire⟩ | ⟨harmed, hsupplied, hfire⟩ <;>
      rw [hfire] at hresp ⊢ <;> cases hresp
    · exact .precise rfl (by simp) fun _ => ⟨rfl, .inr (by cases k <;> decide)⟩
    · exact .consumed k rfl rfl harmed hsupplied rfl
  | wasReset who next => cases next; cases hresp

/-- The fault record after the command `w` with response `r`, when it was `f` before (R223). -/
def Response.record (w : CmdWord) (f : Option FaultRecord) (r : Response) : Option FaultRecord :=
  match r with
  | .ok _ => f
  | .error e => f.or (some { err := e, cmd := w })

@[simp] theorem deschedule_fault (k : Timer) (s : State) : (deschedule k s).fault = s.fault := by
  rw [deschedule_frame]

/-- The record of a command follows from its response. -/
theorem exec_fault (he : exec i s = .next t) : t.fault = t.resp.record (encode i) s.fault := by
  cases exec_effect he with
  | answered d next => subst next; rfl
  | stored b next op keeps mask => subst next; rfl
  | notified b x next who keeps mask => subst next; rfl
  | failed e next no_fire fits => subst next; rfl
  | compared k who next => subst next; rw [compareWrite_frame]; rfl
  | fired k who next =>
    subst next
    rcases fire_cases k (encode i) s with ⟨-, e⟩ | ⟨-, -, e⟩ | ⟨-, -, e⟩ <;> rw [e] <;> rfl
  | wasReset who next => cases next; simp [Response.record]

end failure

section step

variable {s t : State} {r : Request} {rest : List Request}

/-- With nothing presented the block is idle. -/
theorem step_of_no_pending (h : s.pending = []) : step s = .next s.idle := by
  simp only [step, h]

/-- What a step with a command presented is: the command its word spells, or the answer to a rejected word. -/
theorem step_cases (hpending : s.pending = r :: rest) (hstep : step s = .next t) :
    (∃ i, encode i = r.cmd ∧ exec i (s.present r rest) = .next t) ∨
      t = (s.present r rest).raise (.illegalCommand r.cmd) r.cmd := by
  rw [step_of_pending hpending] at hstep
  unfold State.perform at hstep
  split at hstep
  · next i hdecode => exact .inl ⟨i, encode_of_decode hdecode, hstep⟩
  · cases hstep; exact .inr rfl

theorem step_fault (hpending : s.pending = r :: rest) (hstep : step s = .next t) :
    t.fault = t.resp.record r.cmd s.fault := by
  rcases step_cases hpending hstep with ⟨i, hword, hexec⟩ | rfl
  · rw [exec_fault hexec, hword, State.present_fault]
  · rfl

end step

theorem unitOf_mem_units (k : Timer) : unitOf k ∈ units := forall_mem_units.1 (fun _ h => h) k

/-- Some row of the table of the compare units is the one of some timer. -/
theorem exists_mem_units {P : Claims.Unit → Prop} : (∃ u ∈ units, P u) ↔ ∃ k, P (unitOf k) := by
  constructor
  · rintro ⟨u, hu, hP⟩
    have hunit : ∀ u ∈ units, P u → ∃ k, P (unitOf k) := forall_mem_units.2 fun k h => ⟨k, h⟩
    exact hunit u hu hP
  · exact fun ⟨k, hP⟩ => ⟨unitOf k, unitOf_mem_units k, hP⟩

/-- Settles O10: a rejected word and every command but a FIRE without trap delivery fail precisely. -/
theorem errorsArePrecise : Obligations.ErrorsArePrecise := by
  intro s t r rest e hpending hstep hresp before
  rcases step_cases hpending hstep with ⟨i, hword, hexec⟩ | rfl
  · cases exec_failure hexec hresp with
    | precise next no_fire fits => exact .inl ⟨by rw [next, hword]; exact State.raise_eq_afterError _ _ _, no_fire⟩
    | consumed k who err armed undelivered next =>
      refine .inr (exists_mem_units.2 ⟨k, ?_, err, armed, undelivered, ?_⟩)
      · rw [← hword, who]; rfl
      · rw [next, hword]; exact State.raise_eq_afterError _ _ _
  · cases hresp
    exact .inl ⟨State.raise_eq_afterError _ _ _, by simp⟩

/-! The causes of each error. -/

section causes

variable {i : Instr} {s t : State} {id : RegId}

/-- The word of a well-formed command with RSVD 0 spells the command by its OP and ID fields (R81, R85). -/
theorem decodeOp_fields (hwf : i.wf = true) (hrsvd : rsvdField (encode i) = 0) :
    decodeOp (opField (encode i)) (idField (encode i)) = .ok i :=
  (decode_of_rsvd_zero hrsvd).symm.trans (decode_encode hwf)

/-- The error of a well-formed command fits its word, but for the FIRE without trap delivery. -/
theorem exec_error_fits {e : Err} (hwf : i.wf = true) (he : exec i s = .next t) (hresp : t.resp = .error e)
    (hfire : ∀ k, e ≠ .notImplemented (.fireBody k)) : e.fits s.cfg (encode i) := by
  cases exec_failure he hresp with
  | precise next no_fire fits => exact fits hwf
  | consumed k who err armed undelivered next => exact absurd err (hfire k)

/-! UnknownRegister. -/

theorem error_of_finishRead {w : CmdWord} {found : Except Err Word} {e : Err}
    (h : (finishRead w found s).resp = .error e) : found = .error e := by
  cases found <;> cases h
  rfl

theorem error_of_finishWrite {w : CmdWord} {done : Except Err State} {e : Err}
    (h : (finishWrite w done s).resp = .error e) : done = .error e := by
  cases done <;> cases h
  rfl

theorem ge_of_readPlain_unknown {id' : RegId} (h : readPlain id s = .error (.unknownRegister id')) :
    56 ≤ id.toNat := by
  rcases readPlain_error h with ⟨ht, -⟩ | ⟨-, he⟩ | ⟨-, hc⟩
  · exact target_none ht
  · cases he
  · cases (tlCheck_error hc).1

theorem ge_of_writePlain_unknown {id' : RegId} {v : Word}
    (h : writePlain id v s = .error (.unknownRegister id')) : 56 ≤ id.toNat := by
  rcases writePlain_error h with ⟨ht, -⟩ | ⟨-, he⟩ | ⟨-, hc⟩
  · exact target_none ht
  · cases he
  · cases (tlCheck_error hc).1

/-- No identifier of 56 to 255 has a row of its own (R86). -/
theorem generic_wf_of_ge : ∀ id : RegId, 56 ≤ id.toNat →
    (Instr.rdp id).wf = true ∧ (Instr.wrp id).wf = true ∧ (Instr.rde id).wf = true ∧ (Instr.wre id).wf = true := by
  decide

/-- A term that is not well-formed has an identifier below 56, or is reserved. -/
theorem wf_of_unknownRegister (he : exec i s = .next t) (hresp : t.resp = .error (.unknownRegister id)) :
    i.wf = true := by
  cases i
  case rdp id' =>
    cases he
    obtain ⟨hwf, -, -, -⟩ := generic_wf_of_ge id' (ge_of_readPlain_unknown (error_of_finishRead hresp))
    exact hwf
  case wrp id' =>
    cases he
    obtain ⟨-, hwf, -, -⟩ := generic_wf_of_ge id' (ge_of_writePlain_unknown (error_of_finishWrite hresp))
    exact hwf
  case rde id' =>
    cases he
    obtain ⟨-, -, hwf, -⟩ := generic_wf_of_ge id' (ge_of_readPlain_unknown (error_of_finishRead hresp))
    exact hwf
  case wre id' =>
    cases he
    obtain ⟨-, -, -, hwf⟩ := generic_wf_of_ge id' (ge_of_writePlain_unknown (error_of_finishWrite hresp))
    exact hwf
  case reservedRsvd => cases he; cases hresp
  all_goals rfl

/-- A word with OP 0 to 4 and an identifier of 56 to 255 takes a generic row (R86, R88). -/
theorem decodeOp_of_unknown {op : BitVec 4} (hop : op.toNat ≤ 4) (hid : 56 ≤ id.toNat)
    (h : decodeOp op id = .ok i) : i = .rdp id ∨ i = .wrp id ∨ i = .rde id ∨ i = .wre id ∨ i = .name id := by
  obtain ⟨hrdp, hwrp, hrde, hwre⟩ := generic_wf_of_ge id hid
  obtain ⟨n, hn, rfl⟩ : ∃ n ≤ 4, op = BitVec.ofNat 4 n := ⟨op.toNat, hop, by simp⟩
  interval_cases n <;> cases h
  · exact .inl (decodeRdp_of_wf hrdp)
  · exact .inr (.inl (decodeWrp_of_wf hwrp))
  · exact .inr (.inr (.inl (decodeRde_of_wf hrde)))
  · exact .inr (.inr (.inr (.inl (decodeWre_of_wf hwre))))
  · exact .inr (.inr (.inr (.inr rfl)))

theorem exec_name_unknown (hid : 56 ≤ id.toNat) (s : State) :
    exec (.name id) s = .next (afterError (.unknownRegister id) (encode (.name id)) s) := by
  simp only [exec, execName, nameOf_of_ge id hid, State.raise_eq_afterError]

/-- Settles O12: the error fits the word, which spells one of the five commands; and each of them fails so. -/
theorem unknownRegisterCauses : Obligations.UnknownRegisterCauses := by
  intro i s t id he
  constructor
  · intro hresp
    have hwf := wf_of_unknownRegister he hresp
    obtain ⟨hrsvd, hop, rfl, hid⟩ := exec_error_fits hwf he hresp (by simp)
    exact ⟨decodeOp_of_unknown hop hid (decodeOp_fields hwf hrsvd), hid⟩
  · rintro ⟨hi, hid⟩
    have hunknown : exec i s = .next (afterError (.unknownRegister id) (encode i) s) := by
      rcases hi with rfl | rfl | rfl | rfl | rfl
      · exact (isPlainRead_rdp id).exec_unknown hid s
      · exact (isPlainWrite_wrp id).exec_unknown hid s
      · exact (isPlainRead_rde id).exec_unknown hid s
      · exact (isPlainWrite_wre id).exec_unknown hid s
      · exact exec_name_unknown hid s
    obtain rfl := Host.Outcome.next.inj (hunknown.symm.trans he)
    rfl

/-! NotImplemented. -/

/-- The accesses of the identifiers of R225 that the block does model: the plain ones of FPRS and FSR, the writes to
SOFTINT_SET and SOFTINT_CLR, and the effectful read of HVER. -/
def modelledAccesses : List Instr :=
  [.rdp 4, .wrp 4, .wre 4, .rdp 35, .wrp 35, .wre 35, .wrpSoftintSet, .wrpSoftintClr, .wreSoftintSet, .wreSoftintClr,
    .rdeHver]

theorem resp_of_modelledAccess : ∀ i ∈ modelledAccesses, ∀ s : State, ∃ t d, exec i s = .next t ∧ t.resp = .ok d := by
  simp only [modelledAccesses, List.forall_mem_cons, List.not_mem_nil, false_imp_iff, implies_true, and_true]
  and_intros <;> exact fun _ => ⟨_, _, rfl, rfl⟩

/-- An access of an identifier of R225 always fails, or is modelled. -/
theorem decodeOp_of_notImplementedIds {op : BitVec 4} (hop : op.toNat ≤ 3) (hid : id ∈ notImplementedIds)
    (h : decodeOp op id = .ok i) :
    (∃ row ∈ alwaysNotImplemented, i = row.1 ∧ id = row.2.1) ∨ i ∈ modelledAccesses := by
  have htable : ∀ op : BitVec 4, op.toNat ≤ 3 → ∀ id ∈ notImplementedIds, ∀ i ∈ (decodeOp op id).toOption,
      (∃ row ∈ alwaysNotImplemented, i = row.1 ∧ id = row.2.1) ∨ i ∈ modelledAccesses := by
    decide
  exact htable op hop id hid i (by rw [h]; rfl)

/-- Settles O13: the word of a register error is an access of R225, and those of them that are not in the table are
modelled; the table and the FIRE without trap delivery fail so. -/
theorem notImplementedCauses : Obligations.NotImplementedCauses := by
  intro i s t w hwf he
  constructor
  · intro hresp
    cases exec_failure he hresp with
    | precise next no_fire fits =>
      cases w with
      | fireBody k => exact absurd rfl (no_fire k)
      | register id =>
        obtain ⟨hrsvd, hop, hid, hmem⟩ := fits hwf
        have hdecode := decodeOp_fields hwf hrsvd
        rw [← hid] at hdecode
        rcases decodeOp_of_notImplementedIds hop hmem hdecode with ⟨row, hrow, hi, hid⟩ | hi
        · exact .inl ⟨row, hrow, hi, congrArg _ hid⟩
        · obtain ⟨t', d, he', hok⟩ := resp_of_modelledAccess i hi s
          obtain rfl := Host.Outcome.next.inj (he'.symm.trans he)
          cases hok.symm.trans hresp
    | consumed k who err armed undelivered next =>
      cases err
      exact .inr (exists_mem_units.2 ⟨k, who, rfl, armed, undelivered⟩)
  · rintro (⟨row, hrow, rfl, rfl⟩ | hfire)
    · obtain rfl := Host.Outcome.next.inj ((exec_of_mem_alwaysNotImplemented row hrow s).symm.trans he)
      rfl
    · obtain ⟨k, rfl, rfl, harmed, hsupplied⟩ := exists_mem_units.1 hfire
      obtain rfl := Host.Outcome.next.inj ((exec_fireOf_of_no_delivery harmed hsupplied).symm.trans he)
      rfl

/-! InvalidTrapLevel. -/

/-- The failing trap levels are 0 and those above MAXTL (R23). -/
theorem State.not_tlOk_iff : ¬s.tlOk ↔ s.bank.tl = 0 ∨ s.cfg.maxTL < s.bank.tl.toNat := by
  refine ⟨fun h => ?_, State.not_tlOk⟩
  by_cases hzero : s.bank.tl = 0
  · exact .inl hzero
  · have hpos : s.bank.tl.toNat ≠ 0 := fun e => hzero (BitVec.eq_of_toNat_eq e)
    rw [State.tlOk] at h
    omega

/-- A word with OP 0 to 3 and the identifier of a per-trap-level register is one of the 20 accesses (R86). -/
theorem decodeOp_of_trapIds {op : BitVec 4} (hop : op.toNat ≤ 3) (hid : id ∈ trapIds) (h : decodeOp op id = .ok i) :
    i ∈ trapAccesses := by
  have htable : ∀ op : BitVec 4, op.toNat ≤ 3 → ∀ id ∈ trapIds, ∀ i ∈ (decodeOp op id).toOption,
      i ∈ trapAccesses := by
    decide
  exact htable op hop id hid i (by rw [h]; rfl)

/-- At a legal trap level the per-trap-level accesses return OK (R101, R103). -/
theorem resp_of_trapAccess_of_tlOk (hi : i ∈ trapAccesses) (htl : s.tlOk) (he : exec i s = .next t) :
    ∃ d, t.resp = .ok d := by
  obtain ⟨a, hread | hwrite⟩ := exec_of_mem_trapAccesses hi
  · rw [hread, readTrap_of_tlOk a htl] at he
    cases he; exact ⟨_, rfl⟩
  · rw [hwrite, writeTrap_of_tlOk a _ htl] at he
    cases he; exact ⟨_, rfl⟩

/-- Settles O14: the word of the error is an access of a per-trap-level register, and these fail at the trap levels out
of range alone. -/
theorem invalidTrapLevelCauses : Obligations.InvalidTrapLevelCauses := by
  intro i s t v hwf he
  have houtside (htl : s.bank.tl = 0 ∨ s.cfg.maxTL < s.bank.tl.toNat) (hi : i ∈ trapAccesses) :
      t.resp = .error (.invalidTrapLevel s.bank.tl) := by
    obtain rfl := Host.Outcome.next.inj ((trapArrayAccessOutOfRange i hi s htl).symm.trans he)
    rfl
  constructor
  · intro hresp
    obtain ⟨hrsvd, hop, hid, -⟩ := exec_error_fits hwf he hresp (by simp)
    have hi : i ∈ trapAccesses := decodeOp_of_trapIds hop hid (decodeOp_fields hwf hrsvd)
    have htl : ¬s.tlOk := fun htl => by
      obtain ⟨d, hok⟩ := resp_of_trapAccess_of_tlOk hi htl he
      cases hok.symm.trans hresp
    have hrange := State.not_tlOk_iff.1 htl
    cases (houtside hrange hi).symm.trans hresp
    exact ⟨rfl, hrange, hi⟩
  · rintro ⟨rfl, htl, hi⟩
    exact houtside htl hi

end causes

/-! Trap requests. -/

section trapRequests

variable {i : Instr} {s t : State}

/-- How many requests for the trap of timer `k` stand among the strobes. -/
def State.trapRequests (k : Timer) (s : State) : Nat := s.strobes.count (.trapReq k)

theorem deschedule_trapRequests (k j : Timer) (s : State) :
    (deschedule j s).trapRequests k = s.trapRequests k := by
  rcases deschedule_cases j s with ⟨-, e⟩ | ⟨-, e⟩ <;> rw [e]
  simp [State.trapRequests]

theorem schedule_trapRequests (k j : Timer) (d : Int) (s : State) :
    (schedule j d s).trapRequests k = s.trapRequests k := by
  simp [State.trapRequests]

theorem compareWrite_trapRequests (k j : Timer) (v : Word) (s : State) :
    (compareWrite j v s).trapRequests k = s.trapRequests k := by
  have hstored : (storeScalar (cmprOf j) v (allocate j s)).trapRequests k = s.trapRequests k := rfl
  unfold compareWrite
  split <;> split <;> simp only [schedule_trapRequests, deschedule_trapRequests, hstored]

theorem Notifies.ne_trapReq {v : Word} {x : Strobe} (h : Notifies i v x) (k : Timer) : x ≠ .trapReq k := by
  rcases h with ⟨-, rfl⟩ | ⟨-, rfl⟩ | ⟨-, rfl⟩ | ⟨-, rfl⟩ | ⟨-, rfl⟩ <;> simp

/-- No command but FIRE requests a trap. -/
theorem exec_trapRequests (k : Timer) (hi : ∀ j, i ≠ fireOf j) (he : exec i s = .next t) :
    t.trapRequests k = s.trapRequests k := by
  cases exec_effect he with
  | answered d next => subst next; rfl
  | stored b next op keeps mask => subst next; rfl
  | notified b x next who keeps mask => subst next; simp [State.trapRequests, who.ne_trapReq k]
  | failed e next no_fire fits => subst next; rfl
  | compared j who next => subst next; exact compareWrite_trapRequests k j s.wdata s
  | fired j who next => exact absurd who (hi j)
  | wasReset who next =>
    cases next
    have hcleared : State.trapRequests k { s with bank := Bank.reset s.cfg } = s.trapRequests k := rfl
    exact (deschedule_trapRequests k .hstick _).trans ((deschedule_trapRequests k .stick _).trans
      ((deschedule_trapRequests k .tick _).trans hcleared))

/-- A FIRE that emits a strobe found its event armed; the strobe is its trap request, and it returns OK (R180). -/
theorem fire_emitted {k : Timer} {w : CmdWord} {out : List Strobe} (hout : (fire k w s).strobes = s.strobes ++ out)
    (hne : out ≠ []) :
    (s.events.get k).armed = true ∧ out = [.trapReq k] ∧ (fire k w s).resp = .ok .none := by
  rcases fire_cases k w s with ⟨-, hfire⟩ | ⟨harmed, -, hfire⟩ | ⟨-, -, hfire⟩ <;> rw [hfire] at hout ⊢
  · exact absurd (List.self_eq_append_right.1 hout) hne
  · exact ⟨harmed, (List.append_cancel_left hout).symm, rfl⟩
  · exact absurd (List.self_eq_append_right.1 hout) hne

end trapRequests

/-- Settles O42: the strobes of every command but FIRE hold as many trap requests after it as before. -/
theorem trapRequestOnlyByFire : Obligations.TrapRequestOnlyByFire := by
  intro i s t out k he hout hmem
  by_cases hfire : ∃ j, i = fireOf j
  · obtain ⟨j, rfl⟩ := hfire
    obtain rfl := Host.Outcome.next.inj ((exec_fireOf j s).symm.trans he)
    obtain ⟨harmed, rfl, hresp⟩ := fire_emitted hout (List.ne_nil_of_mem hmem)
    obtain rfl : k = j := by simpa using hmem
    exact exists_mem_units.2 ⟨k, rfl, rfl, harmed, rfl, hresp⟩
  · have hcount := exec_trapRequests k (not_exists.1 hfire) he
    rw [State.trapRequests, hout, List.count_append, State.trapRequests, Nat.add_eq_left, List.count_eq_zero] at hcount
    exact absurd hmem hcount

/-! What no command reads: the fault record (R223), and PSTATE and HPSTATE but as data (R241). -/

/-- The bank with the two mode words changed: PSTATE by `p`, HPSTATE by `h`. -/
def Bank.remode (p h : Word → Word) (b : Bank) : Bank := { b with pstate := p b.pstate, hpstate := h b.hpstate }

/-- The state with the two mode words changed and another fault record. -/
def State.remode (p h : Word → Word) (f : Option FaultRecord) (s : State) : State :=
  { s with bank := s.bank.remode p h, fault := f }

/-- `t'` is `t` but for the change of the mode words and the fault record. -/
def Remoded (p h : Word → Word) (t t' : State) : Prop := ∃ f, t' = t.remode p h f

/-- The change of the mode words leaves the scalar field `f`. -/
def Spares (p h : Word → Word) (f : Scalar) : Prop := (f = .pstate → p = id) ∧ (f = .hpstate → h = id)

section remode

variable {p h : Word → Word} {f : Option FaultRecord} {s t : State} {i : Instr} {reg : RegId}

theorem Bank.get_remode {g : Scalar} (hg : Spares p h g) (b : Bank) : (b.remode p h).get g = b.get g := by
  obtain ⟨hp, hh⟩ := hg
  cases g
  case pstate => exact congrFun (hp rfl) _
  case hpstate => exact congrFun (hh rfl) _
  all_goals rfl

theorem Bank.set_remode {g : Scalar} (hg : Spares p h g) (v : Word) (b : Bank) :
    (b.remode p h).set g v = (b.set g v).remode p h := by
  obtain ⟨hp, hh⟩ := hg
  cases g
  case pstate => rw [hp rfl]; rfl
  case hpstate => rw [hh rfl]; rfl
  all_goals rfl

theorem Bank.element_remode (a : TrapReg) (n : Nat) (b : Bank) : (b.remode p h).element a n = b.element a n := by
  cases a <;> rfl

theorem Bank.setElement_remode (a : TrapReg) (n : Nat) (v : Word) (b : Bank) :
    (b.remode p h).setElement a n v = (b.setElement a n v).remode p h := by
  cases a <;> rfl

/-! The operations. -/

theorem remode_answer (d : RespData) (s : State) : (s.remode p h f).answer d = (s.answer d).remode p h f := rfl

theorem finishRead_remode (w : CmdWord) (found : Except Err Word) (f : Option FaultRecord) (s : State) :
    Remoded p h (finishRead w found s) (finishRead w found (s.remode p h f)) := by
  cases found <;> exact ⟨_, rfl⟩

theorem finishWrite_remode (w : CmdWord) (done : Except Err State) (f : Option FaultRecord) (s : State) :
    Remoded p h (finishWrite w done s) (finishWrite w (done.map (State.remode p h f)) (s.remode p h f)) := by
  cases done <;> exact ⟨_, rfl⟩

theorem readTrap_remode (a : TrapReg) (s : State) : readTrap a (s.remode p h f) = readTrap a s := by
  have hcheck : tlCheck (s.remode p h f) = tlCheck s := rfl
  have helement (n : Nat) : (s.remode p h f).bank.element a n = s.bank.element a n := Bank.element_remode a n s.bank
  simp only [readTrap, hcheck, helement]

theorem writeTrap_remode (a : TrapReg) (v : Word) (s : State) :
    writeTrap a v (s.remode p h f) = (writeTrap a v s).map (State.remode p h f) := by
  have hcheck : tlCheck (s.remode p h f) = tlCheck s := rfl
  rw [writeTrap, writeTrap, hcheck]
  cases tlCheck s with
  | error e => rfl
  | ok n => exact congrArg (fun b => Except.ok { s with bank := b, fault := f }) (Bank.setElement_remode a _ v s.bank)

theorem storeScalar_remode {g : Scalar} (hg : Spares p h g) (v : Word) (s : State) :
    storeScalar g v (s.remode p h f) = (storeScalar g v s).remode p h f :=
  congrArg (fun b => { s with bank := b, fault := f }) (Bank.set_remode hg _ s.bank)

theorem readPlain_remode (hreg : ∀ g, target reg = some (.scalar g) → Spares p h g) (s : State) :
    readPlain reg (s.remode p h f) = readPlain reg s := by
  unfold readPlain
  cases ht : target reg with
  | none => rfl
  | some x =>
    cases x with
    | scalar g => exact congrArg Except.ok (Bank.get_remode (hreg g ht) s.bank)
    | trap a => exact readTrap_remode a s
    | _ => rfl

theorem writePlain_remode (hreg : ∀ g, target reg = some (.scalar g) → Spares p h g) (v : Word) (s : State) :
    writePlain reg v (s.remode p h f) = (writePlain reg v s).map (State.remode p h f) := by
  unfold writePlain
  cases ht : target reg with
  | none => rfl
  | some x =>
    cases x with
    | scalar g => exact congrArg Except.ok (storeScalar_remode (hreg g ht) v s)
    | trap a => exact writeTrap_remode a v s
    | _ => rfl

theorem deschedule_remode (k : Timer) (s : State) :
    deschedule k (s.remode p h f) = (deschedule k s).remode p h f := by
  rw [deschedule, deschedule, apply_ite (State.remode p h f)]
  rfl

theorem compareWrite_remode (k : Timer) (v : Word) (s : State) :
    compareWrite k v (s.remode p h f) = (compareWrite k v s).remode p h f := by
  have hstored : storeScalar (cmprOf k) v (allocate k (s.remode p h f)) =
      (storeScalar (cmprOf k) v (allocate k s)).remode p h f :=
    storeScalar_remode (by cases k <;> exact ⟨nofun, nofun⟩) v (allocate k s)
  have hdelta : compareDelta k v (s.remode p h f) = compareDelta k v s := by cases k <;> rfl
  have harms : compareArms k v (s.remode p h f) = compareArms k v s := by rw [compareArms, hdelta]; rfl
  have hcancels : compareCancels k v (s.remode p h f) = compareCancels k v s := by rw [compareCancels, harms]; rfl
  have hcfg : (s.remode p h f).cfg = s.cfg := rfl
  simp only [compareWrite, hdelta, harms, hcancels, hstored, hcfg, deschedule_remode]
  split <;> split <;> rfl

theorem fire_remode (k : Timer) (w : CmdWord) (f : Option FaultRecord) (s : State) :
    Remoded p h (fire k w s) (fire k w (s.remode p h f)) := by
  have hevents : (s.remode p h f).events = s.events := rfl
  have hcfg : (s.remode p h f).cfg = s.cfg := rfl
  rw [fire, fire, hevents, hcfg]
  split
  · split <;> exact ⟨_, rfl⟩
  · exact ⟨_, rfl⟩

/-! The commands. -/

theorem target_eq_hpstate_iff : ∀ id : RegId, target id = some (.scalar .hpstate) ↔ id = 29 := by decide

/-- A generic access of identifier 19 or 29 accesses a mode word as data. -/
theorem touchesModes_of_generic {op : BitVec 4} (hop : op.toNat ≤ 3) (hword : encode i = cmdWord op 0 reg)
    (hreg : reg = 19 ∨ reg = 29) : touchesModes i := by
  obtain ⟨-, hopField, hidField⟩ := fields_of_generic op reg
  exact .inl (by rw [hword, hopField, hidField]; exact ⟨hop, hreg⟩)

/-- A generic access reaches no mode word that is changed. -/
theorem spares_of_generic {op : BitVec 4} (hi : touchesModes i → p = id ∧ h = id) (hop : op.toNat ≤ 3)
    (hword : encode i = cmdWord op 0 reg) (g : Scalar) (ht : target reg = some (.scalar g)) : Spares p h g := by
  constructor
  · rintro rfl
    exact (hi (touchesModes_of_generic hop hword (.inl ((target_eq_pstate_iff reg).1 ht)))).1
  · rintro rfl
    exact (hi (touchesModes_of_generic hop hword (.inr ((target_eq_hpstate_iff reg).1 ht)))).2

/-- A read that finds the same ends alike. -/
theorem exec_read_remode {q : State → Except Err Word}
    (hexec : ∀ s, exec i s = .next (finishRead (encode i) (q s) s)) (hq : q (s.remode p h f) = q s) :
    ∃ t', exec i (s.remode p h f) = .next t' ∧ Remoded p h (finishRead (encode i) (q s) s) t' :=
  ⟨_, hexec _, by rw [hq]; exact finishRead_remode _ _ _ _⟩

/-- A write that stores the same ends alike. -/
theorem exec_write_remode {q : State → Except Err State}
    (hexec : ∀ s, exec i s = .next (finishWrite (encode i) (q s) s))
    (hq : q (s.remode p h f) = (q s).map (State.remode p h f)) :
    ∃ t', exec i (s.remode p h f) = .next t' ∧ Remoded p h (finishWrite (encode i) (q s) s) t' :=
  ⟨_, hexec _, by rw [hq]; exact finishWrite_remode _ _ _ _⟩

theorem exec_reset_remode (f : Option FaultRecord) (s : State) :
    exec .reset (s.remode id id f) = .next (((deschedule .hstick (deschedule .stick (deschedule .tick
      { s with bank := Bank.reset s.cfg }))).answer .none).remode id id f) := by
  rw [← remode_answer, ← deschedule_remode, ← deschedule_remode, ← deschedule_remode]
  rfl

/-- Every command gives the same next state, the fault record aside, when the mode words stay as they are for the
commands that access them as data. -/
theorem exec_remode (hi : touchesModes i → p = id ∧ h = id) (f : Option FaultRecord) (he : exec i s = .next t) :
    ∃ t', exec i (s.remode p h f) = .next t' ∧ Remoded p h t t' := by
  cases i <;> cases he
  case rdp reg =>
    exact exec_read_remode (fun _ => rfl) (readPlain_remode (spares_of_generic (op := 0) hi (by decide) rfl) s)
  case rde reg =>
    exact exec_read_remode (fun _ => rfl) (readPlain_remode (spares_of_generic (op := 2) hi (by decide) rfl) s)
  case wrp reg =>
    exact exec_write_remode (q := fun s => writePlain reg s.wdata s) (fun _ => rfl)
      (writePlain_remode (spares_of_generic (op := 1) hi (by decide) rfl) s.wdata s)
  case wre reg =>
    exact exec_write_remode (q := fun s => writePlain reg s.wdata s) (fun _ => rfl)
      (writePlain_remode (spares_of_generic (op := 3) hi (by decide) rfl) s.wdata s)
  case rdpTpc | rdpTnpc | rdpTstate | rdpTt | rdpHtstate =>
    exact exec_read_remode (fun _ => rfl) (readTrap_remode _ s)
  case wrpTpc | wrpTnpc | wrpTstate | wrpTt | wrpHtstate =>
    exact exec_write_remode (q := fun s => writeTrap _ s.wdata s) (fun _ => rfl) (writeTrap_remode _ s.wdata s)
  case wrpPstate | wrePstate =>
    obtain ⟨rfl, rfl⟩ := hi (.inl ⟨by decide, .inl rfl⟩)
    exact ⟨_, rfl, f, rfl⟩
  case name reg =>
    refine ⟨_, rfl, ?_⟩
    cases nameOf reg <;> exact ⟨_, rfl⟩
  case reset =>
    obtain ⟨rfl, rfl⟩ := hi (.inr (.inl rfl))
    exact ⟨_, exec_reset_remode f s, f, rfl⟩
  case save =>
    obtain ⟨rfl, rfl⟩ := hi (.inr (.inr (.inl rfl)))
    exact ⟨_, rfl, f, rfl⟩
  case restore =>
    obtain ⟨rfl, rfl⟩ := hi (.inr (.inr (.inr rfl)))
    refine ⟨_, rfl, ?_⟩
    have himg : (s.remode id id f).img = s.img := rfl
    have hcfg : (s.remode id id f).cfg = s.cfg := rfl
    rw [himg, hcfg]
    split <;> exact ⟨_, rfl⟩
  case wreTickCmpr | wreStickCmpr | wreHstickCmpr =>
    refine ⟨_, rfl, f, ?_⟩
    rw [compareWrite_remode]
    rfl
  case fireTick | fireStick | fireHstick => exact ⟨_, rfl, fire_remode _ _ _ _⟩
  all_goals exact ⟨_, rfl, _, rfl⟩

end remode

/-- Settles O11: the record after a step follows from the response; the third part is `exec_remode` with the mode words
left as they are. -/
theorem faultRecordIsFirstError : Obligations.FaultRecordIsFirstError := by
  refine ⟨fun s t r hstep hfault => ?_, fun s t r rest hpending hstep hfault => ?_, fun i s t f he => ?_⟩
  · cases hpending : s.pending with
    | nil =>
      rw [step_of_no_pending hpending] at hstep
      cases hstep; exact hfault
    | cons q rest =>
      rw [step_fault hpending hstep, hfault]
      cases t.resp <;> rfl
  · rw [step_fault hpending hstep, hfault]
    cases t.resp <;> rfl
  · obtain ⟨t', he', f', rfl⟩ := exec_remode (p := id) (h := id) (fun _ => ⟨rfl, rfl⟩) f he
    exact ⟨f', he'⟩

/-- Settles O53: the two runs end alike but for the fault record, which follows from the response in both. -/
theorem modesChangeNoRule : Obligations.ModesChangeNoRule := by
  intro i s t p h _ hi he
  obtain ⟨t', he', f', rfl⟩ :=
    exec_remode (p := fun _ => p) (h := fun _ => h) (fun htouches => absurd htouches hi) s.fault he
  have hfault : f' = t.fault := (exec_fault he').trans (exec_fault he).symm
  rw [hfault] at he'
  exact he'

end Sys2Proof.Machine
end

section
/-! PROOFS. The statements of 70_reset_and_hazards.md: RESET (R260 to R264), the state it leaves, and the turns of the
agents (R277). -/

open Sys2Proof.Claims

namespace Sys2Proof.Machine

/-! The bank at its reset values (R260, R261). -/

section resetBank

variable (c : Config)

theorem Bank.get_reset_of_ne {f : Scalar} (hhpstate : f ≠ .hpstate) (hstrand : f ≠ .strandSts) :
    (Bank.reset c).get f = 0 := by
  cases f
  case hpstate => exact absurd rfl hhpstate
  case strandSts => exact absurd rfl hstrand
  all_goals rfl

theorem Bank.array_reset (a : TrapReg) : (Bank.reset c).array a = List.replicate c.maxTL 0 := by
  cases a <;> rfl

theorem Bank.slot_reset (n : Fin 8) : (Bank.reset c).slot n = 0 :=
  Vector.getElem_replicate _

end resetBank

/-! The state after RESET. -/

/-- The three events after RESET took every schedule away (R260). -/
def Events.descheduled (es : Events) : Events :=
  { tick := es.tick.descheduled, stick := es.stick.descheduled, hstick := es.hstick.descheduled }

theorem Events.get_descheduled (es : Events) (k : Timer) : es.descheduled.get k = (es.get k).descheduled := by
  cases k <;> rfl

theorem TimerEvent.descheduled_eq (e : TimerEvent) :
    e.descheduled = if e.armed = true then { e with armed := false, delay := 0 } else e := by
  by_cases harmed : e.armed = true
  · simp only [TimerEvent.descheduled, if_pos harmed]
  · have hunarmed : e.armed = false := Bool.not_eq_true _ ▸ harmed
    rw [TimerEvent.descheduled, if_neg harmed, if_neg harmed, ← hunarmed]

/-- What RESET emits: the strobes of three deschedules, timer 0 first (R260). -/
def resetStrobes (s : State) : List Strobe :=
  descheduleStrobes .tick s ++ descheduleStrobes .stick s ++ descheduleStrobes .hstick s

theorem resetStrobes_eq (s : State) :
    resetStrobes s = (units.filter fun u => (u.get s.events).armed).map fun u => Strobe.desched u.k := by
  have hunit (k : Timer) : descheduleStrobes k s =
      ([unitOf k].filter fun u => (u.get s.events).armed).map fun u => Strobe.desched u.k := by
    cases harmed : (s.events.get k).armed <;> simp [descheduleStrobes, unitOf, harmed]
  rw [resetStrobes, hunit, hunit, hunit, ← List.map_append, ← List.map_append, ← List.filter_append,
    ← List.filter_append]
  rfl

/-- The next state of RESET (R260). -/
def afterReset (s : State) : State :=
  afterStore (Bank.reset s.cfg) { s with events := s.events.descheduled, strobes := s.strobes ++ resetStrobes s }

theorem exec_reset (s : State) : exec .reset s = .next (afterReset s) := by
  rw [exec, execReset, deschedule_eq .tick, deschedule_eq .stick, deschedule_eq .hstick, afterReset, resetStrobes,
    ← List.append_assoc, ← List.append_assoc]
  rfl

/-- Settles O48: the fields are those of `Bank.reset`, the events those of `Events.descheduled`. -/
theorem resetCommand : Obligations.ResetCommand := by
  refine ⟨rfl, fun s => ⟨afterReset s, exec_reset s, rfl, ?scalars, rfl, rfl, ?arrays, Bank.slot_reset s.cfg,
    ?events, ?strobes⟩⟩
  case scalars =>
    refine forall_mem_savePositions.2 fun f hhpstate hstrand => Bank.get_reset_of_ne s.cfg ?_ ?_
    · rintro rfl; exact hhpstate rfl
    · rintro rfl; exact hstrand rfl
  case arrays =>
    simp only [trapArrays, List.forall_mem_cons, List.not_mem_nil, false_imp_iff, implies_true, and_true]
    exact ⟨Bank.array_reset _ .tpc, Bank.array_reset _ .tnpc, Bank.array_reset _ .tstate, Bank.array_reset _ .tt,
      Bank.array_reset _ .htstate⟩
  case events =>
    exact forall_mem_units.2 fun k => (Events.get_descheduled _ k).trans (TimerEvent.descheduled_eq _)
  case strobes => exact congrArg (s.strobes ++ ·) (resetStrobes_eq s)

/-- Settles O49: RDP of each of these registers is the plain read of a field of the reset bank. -/
theorem resetLaw : Obligations.ResetLaw := by
  intro s t he
  obtain rfl := Host.Outcome.next.inj ((exec_reset s).symm.trans he)
  refine ⟨⟨_, (isPlainRead_rdp 29).exec_scalar rfl _, ?_⟩, fun n => ?_, (isPlainRead_rdp 33).exec_scalar rfl _,
    s.cfg.strandStsReset_ne⟩
  · have hbit : (BitVec.twoPow 64 s.cfg.hpstateResetBit).getLsbD s.cfg.hpstateResetBit = true := by
      simp [s.cfg.hpstateResetBit_lt]
    exact hbit
  · rw [← Bank.slot_reset s.cfg n]
    exact (isPlainRead_rdp _).exec_scratch (target_scratch n) _

/-- Settles O50: a block that never saw a command has no schedule to take away. -/
theorem resetFromPowerOn : Obligations.ResetFromPowerOn := fun c b => exec_reset (State.powerOn c b)

/-- The state right after RESET meets the invariant, whatever the configuration (R261). -/
theorem State.resetWith_wf (c : Config) : (State.resetWith c).wf :=
  ⟨Bank.reset_wf c, Events.wf_iff.2 fun k => by cases k <;> rfl, trivial⟩

/-- The state right after RESET is a clean launch state (R278 (a)). -/
theorem State.resetWith_clean (c : Config) : (State.resetWith c).clean := ⟨rfl, ⟨rfl, rfl, rfl⟩, rfl⟩

/-- Settles O58: the hardware's own reset state is the one of its configuration. -/
theorem invariantAtReset : Obligations.InvariantAtReset :=
  ⟨fun c => ⟨State.resetWith_wf c, State.resetWith_clean c⟩, State.resetWith_wf Config.hardware⟩

/-! Who answers IllegalCommand (R227). -/

theorem exec_answers_next (i : Instr) (s : State) : ∃ t, exec i s = .next t := by
  cases i <;> exact ⟨_, rfl⟩

/-- The commands with an OP of 5 or more (R85). -/
theorem instr_cases_of_five_le {i : Instr} (hres : isReserved i = false) (hop : 5 ≤ (Laws.OpField.code i).toNat) :
    i = .reset ∨ i = .save ∨ i = .restore ∨ (∃ k, i = fireOf k) ∨ ∃ k, i = isschedOf k := by
  cases i
  case reset => exact .inl rfl
  case save => exact .inr (.inl rfl)
  case restore => exact .inr (.inr (.inl rfl))
  case fireTick => exact .inr (.inr (.inr (.inl ⟨.tick, rfl⟩)))
  case fireStick => exact .inr (.inr (.inr (.inl ⟨.stick, rfl⟩)))
  case fireHstick => exact .inr (.inr (.inr (.inl ⟨.hstick, rfl⟩)))
  case isschedTick => exact .inr (.inr (.inr (.inr ⟨.tick, rfl⟩)))
  case isschedStick => exact .inr (.inr (.inr (.inr ⟨.stick, rfl⟩)))
  case isschedHstick => exact .inr (.inr (.inr (.inr ⟨.hstick, rfl⟩)))
  case reservedOpa | reservedOpb | reservedOpc | reservedOpd | reservedOpe | reservedOpf | reservedRsvd => cases hres
  all_goals exact absurd hop (by simp [Laws.OpField.code])

/-- FIRE of an armed event consumes it, and requests the trap where trap delivery is supplied (R180). -/
theorem exec_fireOf_of_armed {k : Timer} {s t : State} (harmed : (s.events.get k).armed = true)
    (he : exec (fireOf k) s = .next t) :
    (t.events.get k).armed = false ∧
      if s.cfg.trapDeliverySupplied = true then t.resp = .ok .none ∧ t.strobes = s.strobes ++ [.trapReq k]
      else t.resp = .error (.notImplemented (.fireBody k)) ∧ t.strobes = s.strobes := by
  by_cases hsupplied : s.cfg.trapDeliverySupplied = true
  · rw [exec_fireOf_of_delivery harmed hsupplied] at he
    cases he
    rw [if_pos hsupplied]
    exact ⟨congrArg TimerEvent.armed (Events.get_set_same _ _ _), rfl, rfl⟩
  · rw [exec_fireOf_of_no_delivery harmed (Bool.eq_false_iff.2 hsupplied)] at he
    cases he
    rw [if_neg hsupplied]
    exact ⟨congrArg TimerEvent.armed (Events.get_set_same _ _ _), rfl, rfl⟩

/-- A command of R85 that answers IllegalCommand is RESTORE without a whole image, or FIRE of an Unarmed event. -/
theorem exec_illegalCommand {i : Instr} {s t : State} {w : CmdWord} (hwf : i.wf = true) (hres : isReserved i = false)
    (he : exec i s = .next t) (hresp : t.resp = .error (.illegalCommand w)) :
    (i = .restore ∧ s.port.img.length ≠ 44 + 5 * s.cfg.maxTL) ∨
      ∃ k, i = fireOf k ∧ (s.events.get k).armed = false := by
  obtain ⟨-, hfield⟩ := exec_error_fits hwf he hresp (by simp)
  rw [rsvdField_encode, opField_encode] at hfield
  have hop := hfield.resolve_left fun hrsvd => hrsvd ((isReserved_eq_false_iff hwf).1 hres).1
  rcases instr_cases_of_five_le hres hop with rfl | rfl | rfl | ⟨k, rfl⟩ | ⟨k, rfl⟩
  · cases he; cases hresp
  · cases he; cases hresp
  · refine .inl ⟨rfl, fun hlen => ?_⟩
    rw [exec_restore_of_length hlen] at he
    cases he; cases hresp
  · refine .inr ⟨k, rfl, Bool.eq_false_iff.2 fun harmed => ?_⟩
    have hanswer := (exec_fireOf_of_armed harmed he).2
    rw [hresp] at hanswer
    split at hanswer <;> cases hanswer.1
  · rw [exec_isschedOf] at he
    cases he; cases hresp

/-! The turns of the agents (R277). -/

theorem Agent.not_isReserved {a : Agent} {i : Instr} (h : a.mayIssue i = true) : isReserved i = false := by
  cases a with
  | executionContext => exact (Agent.context_cases h).1
  | eventScheduler => obtain ⟨k, rfl⟩ := Agent.scheduler_cases h; cases k <;> rfl
  | persistenceFramework => obtain rfl | rfl := Agent.persistence_cases h <;> rfl
  | systemCollaborator => cases h
  | interruptCollaborator => cases h
  | registerWindow => cases h

theorem Agent.mayIssue_restore {a : Agent} (h : a.mayIssue .restore = true) :
    a = .executionContext ∨ a = .persistenceFramework := by
  cases a with
  | executionContext => exact .inl rfl
  | persistenceFramework => exact .inr rfl
  | _ => cases h

theorem decode_fireOf (k : Timer) : decode (encode (fireOf k)) = .ok (fireOf k) := by
  cases k <;> rfl

/-- The scheduler's liberty: FIRE of an event exactly while it is armed (R183, R277). -/
theorem Turn.legal_fire_iff {m : Turn} {s : State} {k : Timer} (hissuer : m.issuer = .eventScheduler)
    (hcmd : m.cmd = encode (fireOf k)) : m.legal s = true ↔ (s.events.get k).armed = true := by
  rw [Turn.legal, hcmd, decode_fireOf, hissuer]
  cases k <;> simp [fireOf, Agent.liberty, Agent.mayIssue, Agent.keepsDuty, firedTimer]

section turns

variable {i : Instr} {m : Turn} {rest : List Request} {s t : State}

/-- IllegalCommand answers no legal turn but the execution context's RESTORE without a whole image. -/
theorem issuer_of_illegalCommand {w : CmdWord} (hlegal : m.legal s = true) (hdecode : decode m.cmd = .ok i)
    (he : exec i (s.present m.request rest) = .next t) (hresp : t.resp = .error (.illegalCommand w)) :
    m.issuer = .executionContext ∧ m.cmd = 0x7000 ∧ m.img.length ≠ 44 + 5 * s.cfg.maxTL := by
  obtain ⟨j, hj, hissue, harmed, hduty⟩ := Turn.legal_cases hlegal
  obtain rfl : i = j := Except.ok.inj (hdecode.symm.trans hj)
  rcases exec_illegalCommand (decode_wf hdecode) (Agent.not_isReserved hissue) he hresp with
    ⟨rfl, hlen⟩ | ⟨k, hfire, hunarmed⟩
  · refine ⟨(Agent.mayIssue_restore hissue).resolve_right fun hissuer => hlen ?_, (encode_of_decode hdecode).symm,
      hlen⟩
    exact (hduty hissuer rfl).trans (Nat.add_comm _ _)
  · cases (harmed k hfire).symm.trans hunarmed

/-- SAVE, and RESTORE of a whole image, return OK and emit nothing (R202, R203). -/
theorem exec_persistence (hi : i = .save ∨ i = .restore)
    (hlen : i = .restore → s.port.img.length = 44 + 5 * s.cfg.maxTL) (he : exec i s = .next t) :
    t.strobes = s.strobes ∧ (t.resp = .ok .none ∨ ∃ img, t.resp = .ok (.image img)) := by
  rcases hi with rfl | rfl
  · cases he; exact ⟨rfl, .inr ⟨_, rfl⟩⟩
  · rw [exec_restore_of_length (hlen rfl)] at he
    cases he; exact ⟨rfl, .inl rfl⟩

/-- A command other than FIRE that starts with no strobe ends with no trap request (R230). -/
theorem not_trapReq_mem (hi : ∀ k, i ≠ fireOf k) (hstrobes : s.strobes = []) (he : exec i s = .next t) (k : Timer) :
    .trapReq k ∉ t.strobes := by
  have hcount := exec_trapRequests k hi he
  rw [State.trapRequests, State.trapRequests, hstrobes, List.count_nil] at hcount
  exact List.count_eq_zero.1 hcount

end turns

/-- Settles O60: the turn's command, with the request on the port, issuer by issuer. -/
theorem legalTurnsGetTheirAnswer : Obligations.LegalTurnsGetTheirAnswer := by
  refine ⟨forall_mem_units.2 fun k m s => Turn.legal_fire_iff, fun m rest s hpending hlegal => ?_⟩
  obtain ⟨i, hdecode, hissue, harmed, hduty⟩ := Turn.legal_cases hlegal
  obtain ⟨t, he⟩ := exec_answers_next i (s.present m.request rest)
  refine ⟨t, (step_of_turn hpending hdecode).trans he,
    fun w => issuer_of_illegalCommand hlegal hdecode he, fun hissuer => ?scheduler, fun hissuer => ?persistence,
    fun hissuer => ?context⟩ <;> rw [hissuer] at hissue
  case scheduler =>
    obtain ⟨k, rfl⟩ := Agent.scheduler_cases hissue
    obtain ⟨hunarmed, hanswer⟩ := exec_fireOf_of_armed (s := s.present m.request rest) (harmed k rfl) he
    exact exists_mem_units.2 ⟨k, (encode_of_decode hdecode).symm, hunarmed, hanswer⟩
  case persistence =>
    exact exec_persistence (Agent.persistence_cases hissue)
      (fun hrestore => (hduty hissuer hrestore).trans (Nat.add_comm _ _)) he
  case context => exact not_trapReq_mem (Agent.context_cases hissue).2 rfl he

end Sys2Proof.Machine
end

section
/-! PROOFS. The statements about the whole command set: the words the decoder rejects (R87), the causes of
IllegalCommand (R227), the idle step, and the shape of every command (R222). -/

open Sys2Proof.Claims

namespace Sys2Proof.Machine

/-! What the decoder rejects (R87 (c), (d)). -/

theorem decodeNoId_rejects_iff {id : RegId} {i : Instr} : (∃ e, decodeNoId id i = .error e) ↔ id ≠ 0 := by
  constructor
  · rintro ⟨e, h⟩ rfl
    cases h
  · exact fun hid => ⟨_, decodeNoId_of_ne hid⟩

theorem decodeTimer_rejects_iff {id : RegId} {a b c : Instr} :
    (∃ e, decodeTimer id a b c = .error e) ↔ 2 < id.toNat := by
  constructor
  · rintro ⟨e, h⟩
    by_contra hle
    have hid : id.toNat = 0 ∨ id.toNat = 1 ∨ id.toNat = 2 := by omega
    rcases hid with hid | hid | hid <;> simp [decodeTimer, hid] at h
  · exact fun hid => ⟨_, decodeTimer_of_gt hid⟩

/-- With RSVD 0, OP 0 to 4 and OP 0xA and above take every identifier; the others are as their decoding function. -/
theorem decodeOp_rejects_iff {op : BitVec 4} {id : RegId} : (∃ e, decodeOp op id = .error e) ↔
    ((op = 5 ∨ op = 6 ∨ op = 7) ∧ id ≠ 0) ∨ ((op = 8 ∨ op = 9) ∧ 2 < id.toNat) := by
  obtain ⟨n, hn, rfl⟩ : ∃ n < 16, op = BitVec.ofNat 4 n := ⟨op.toNat, op.isLt, by simp⟩
  interval_cases n
  iterate 5 simp [decodeOp]
  iterate 3 simpa [decodeOp] using decodeNoId_rejects_iff
  iterate 2 simpa [decodeOp] using decodeTimer_rejects_iff
  all_goals simp [decodeOp]

/-- Settles O3: a word with RSVD not 0 is a row, and any other word is decoded by its OP and ID. -/
theorem decodeRejectsExactly : Obligations.DecodeRejectsExactly := by
  intro w
  by_cases hrsvd : rsvdField w = 0
  · rw [decode_of_rsvd_zero hrsvd, decodeOp_rejects_iff, and_iff_right hrsvd]
  · rw [decode_of_rsvd_ne hrsvd]
    exact iff_of_false (by rintro ⟨e, h⟩; cases h) fun h => hrsvd h.1

/-- Settles O4: the decoder computes each command from its word. -/
theorem sampleWordsDecode : Obligations.SampleWordsDecode :=
  ⟨rfl, rfl, rfl, rfl, rfl, rfl, rfl, rfl, rfl, rfl, rfl, rfl, rfl, rfl, rfl, rfl⟩

/-- Settles O8: the idle state of the model is the one with no strobes. -/
theorem idleStepChangesNothing : Obligations.IdleStepChangesNothing := fun _ => step_of_no_pending

/-! The causes of IllegalCommand (R87, R227). -/

section illegalCommand

variable {s t : State} {i : Instr} {w : CmdWord}

/-- A word the decoder rejects is illegal (R87 (c), (d)). -/
theorem illegal_of_rejected {e : Reject} {r : Request} (h : decode r.cmd = .error e) : illegal s r := by
  obtain ⟨-, hid | htimer⟩ := (decodeRejectsExactly r.cmd).1 ⟨e, h⟩
  · exact .inr (.inr (.inl hid))
  · exact .inr (.inr (.inr (.inl htimer)))

/-- A reserved command has an illegal word (R87 (a), (b)). -/
theorem illegal_of_isReserved (hwf : i.wf = true) (hres : isReserved i = true) (hword : encode i = s.port.cmd) :
    illegal s s.port := by
  have hfields : ¬(Laws.OpField.rsvd i = 0 ∧ (Laws.OpField.code i).toNat ≤ 9) := fun h =>
    Bool.noConfusion (((isReserved_eq_false_iff hwf).2 h).symm.trans hres)
  rw [← rsvdField_encode, ← opField_encode, hword] at hfields
  by_cases hrsvd : rsvdField s.port.cmd = 0
  · exact .inr (.inl (Nat.lt_of_not_le fun hop => hfields ⟨hrsvd, hop⟩))
  · exact .inl hrsvd

/-- A command that answers IllegalCommand records its own word, and that word is illegal. -/
theorem illegal_of_exec (hwf : i.wf = true) (hword : encode i = s.port.cmd) (he : exec i s = .next t)
    (hresp : t.resp = .error (.illegalCommand w)) : w = s.port.cmd ∧ illegal s s.port := by
  obtain ⟨hw, -⟩ := exec_error_fits hwf he hresp (by simp)
  refine ⟨hw.trans hword, ?_⟩
  cases hres : isReserved i with
  | true => exact illegal_of_isReserved hwf hres hword
  | false =>
    rcases exec_illegalCommand hwf hres he hresp with ⟨rfl, hlen⟩ | ⟨k, rfl, hunarmed⟩
    · exact .inr (.inr (.inr (.inr (.inl ⟨by rw [← hword]; rfl, hlen⟩))))
    · refine .inr (.inr (.inr (.inr (.inr ⟨?_, exists_mem_units.2 ⟨k, ?_, hunarmed⟩⟩))))
      · rw [← hword]; cases k <;> rfl
      · rw [← hword]; cases k <;> rfl

end illegalCommand

/-- Settles O7: a rejected word is illegal, and so is the word of a command that answers IllegalCommand. -/
theorem illegalCommandOnlyForIllegalWords : Obligations.IllegalCommandOnlyForIllegalWords := by
  intro s t r rest w hpending hstep hresp
  cases hdecode : decode r.cmd with
  | ok i =>
    rw [stepRunsDecodedCommand s r rest i hpending hdecode] at hstep
    exact illegal_of_exec (s := s.present r rest) (decode_wf hdecode) (encode_of_decode hdecode) hstep hresp
  | error e =>
    refine ⟨?_, illegal_of_rejected hdecode⟩
    have hraised : (s.present r rest).PerformsIllegal := State.performsIllegal_of_rejected hdecode
    rw [step_of_pending hpending, hraised] at hstep
    cases hstep
    cases hresp
    rfl

/-! The shape of every command (R222). -/

/-- What no command changes, and the strobes, which it only adds to: case by case of what a command can do. -/
theorem exec_frame {i : Instr} {s t : State} (he : exec i s = .next t) :
    t.cfg = s.cfg ∧ t.port = s.port ∧ t.pending = s.pending ∧ ∃ out, t.strobes = s.strobes ++ out := by
  cases exec_effect he with
  | answered d next => subst next; exact ⟨rfl, rfl, rfl, [], (List.append_nil _).symm⟩
  | stored b next op keeps mask => subst next; exact ⟨rfl, rfl, rfl, [], (List.append_nil _).symm⟩
  | notified b x next who keeps mask => subst next; exact ⟨rfl, rfl, rfl, [x], rfl⟩
  | failed e next no_fire fits => subst next; exact ⟨rfl, rfl, rfl, [], (List.append_nil _).symm⟩
  | compared k who next =>
    obtain ⟨out, hout, -⟩ := compareWrite_emits k s.wdata s
    rw [next, compareWrite_frame]
    exact ⟨rfl, rfl, rfl, out, hout⟩
  | fired k who next =>
    obtain ⟨out, hout, -⟩ := fire_emits k (encode i) s
    refine next ▸ ⟨fire_cfg k _ s, ?_, ?_, out, hout⟩ <;>
      rcases fire_cases k (encode i) s with ⟨-, e⟩ | ⟨-, -, e⟩ | ⟨-, -, e⟩ <;> rw [e] <;> rfl
  | wasReset who next =>
    rw [exec_reset] at next
    cases next
    exact ⟨rfl, rfl, rfl, resetStrobes s, rfl⟩

/-- Settles O9: some next state is answered, and every next state is framed. -/
theorem everyCommandAnswersNext : Obligations.EveryCommandAnswersNext := by
  intro i s
  obtain ⟨t, he⟩ := exec_answers_next i s
  obtain ⟨hcfg, hport, hpending, out, hstrobes⟩ := exec_frame he
  exact ⟨t, out, he, hcfg, hport, hpending, hstrobes⟩

end Sys2Proof.Machine
end
